-- ==== Sys2Proof/Word.lean ====
section
/-! DEFINITION. The data types every other file uses: bytes, frames, pulse-train events and the strobes of the transmit
ports (spec rules R5, R6, R24, R31). The four sizes of R5 stand here, under the name of the configuration they belong to,
because the types are built from them. -/

namespace Sys2Proof

/-- `BYTE_W` (R5): the width of a byte. -/
abbrev Config.byteW : Nat := 8

/-- `N_BYTES` (R5): the bytes of a frame. -/
abbrev Config.nBytes : Nat := 18

/-- `N_BITS` (R5): the bits of a frame, `18×8`. -/
abbrev Config.nBits : Nat := 144

/-- `N_REP` (R5): how often a send repeats the frame. -/
abbrev Config.nRep : Nat := 2

/-- An unsigned 8-bit value (R5 `BYTE_W`, R6). A bit vector carries its width as a numeral, which Laws/Ops.lean shows to be
the configured one. -/
abbrev Byte := BitVec 8

/-- A frame: exactly 18 bytes, index-addressed (R5 `N_BYTES`, R11, R12). -/
abbrev Frame := Vector Byte Config.nBytes

/-- One element of a pulse train: a carrier-on or a carrier-off interval of a natural number of microseconds (R5 `DUR`,
R31). The kind is a constructor, as R65 asks. -/
inductive Event where
  | mark (d : Nat)
  | space (d : Nat)
  deriving DecidableEq, Repr

/-- One strobe of the serializer's output ports `tx_carrier`, `tx_event`, `tx_perform` (R24, R33, R34). -/
inductive TxStrobe where
  | carrier (hz : Nat)
  | event (e : Event)
  | perform
  deriving DecidableEq, Repr

/-- The symbol alphabet of R50. -/
inductive Symbol where
  | header
  | zero
  | one
  | gap
  | footer
  deriving DecidableEq, Repr

/-- The three errors of the deserializer with the position each records (R140, R141). -/
inductive RxError where
  | headerMismatch
  | bitTimingMismatch (pos : Nat)
  | fixedByteMismatch (pos : Nat)
  deriving DecidableEq, Repr

/-- The result of a whole decode as a function (R90): 18 bytes, or one error. -/
inductive RxResult where
  | ok (frame : Frame)
  | err (e : RxError)
  deriving DecidableEq, Repr

end Sys2Proof
end

