-- ==== Sys2Proof/Config.lean ====
section
/-! DEFINITION. The identity R2 gives the block, what the spec fixes for it (the timing table of R18, the fixed-byte table
of R19; the sizes of R5 stand in Word.lean, where the types need them) and what it leaves open: the longest capture (R5),
the tolerance test (R37, D6), what the frame buffers hold after a reset (R26), the order in which two busy halves move, and
what becomes of a train whose transmission a reset abandons (R166). The open values are constants with no body, so that no proof can rest on one. -/

namespace Sys2Proof

/-- The identity fields of R2. A field the sources give no value for is none. -/
structure Identity where
  name : String
  sourceName : String
  function : String
  isa : String
  protocol : Option String
  partNumber : Option String
  vendor : Option String
  repositoryOwner : String
  sourceRevision : String
  deriving DecidableEq, Repr

/-- The identity R2 gives: no protocol name, no part number and no vendor; the revision is known from the commission note
only. -/
def Config.identity : Identity where
  name := "IR pulse codec"
  sourceName := "FramePulseCodec of the repository OlympusMonds/esphome"
  function := "IR pulse-to-bit deserializer with fixed-header frame validation; " ++
    "IR bit-to-pulse serializer with mark/space timing tables"
  isa := "the single proprietary air-conditioner infrared protocol ESP describes: one frame layout of 18 bytes, " ++
    "pulse-distance bit coding, 38 kHz carrier; no extensions, no options, no variants"
  protocol := none
  partNumber := none
  vendor := none
  repositoryOwner := "OlympusMonds"
  sourceRevision := "v7"

/-- The timing table `TIMING` (R5, R18): durations in microseconds, the carrier in hertz. `tGapMark` and `tFootMark` are
fields of their own because their figure is a decision of the spec (D4). -/
structure Timing where
  tHdrMark : Nat
  tHdrSpace : Nat
  tBitMark : Nat
  tOneSpace : Nat
  tZeroSpace : Nat
  tMinGap : Nat
  tGapMark : Nat
  tFootMark : Nat
  carrierHz : Nat
  deriving DecidableEq, Repr

/-- The figures of R18 and D4. UNVERIFIED against any appliance: the spec calls its literals unaudited (U1, R175); log
entry 21, unsafe. -/
def Config.timing : Timing where
  tHdrMark := 3500
  tHdrSpace := 1700
  tBitMark := 430
  tOneSpace := 1250
  tZeroSpace := 390
  tMinGap := 17500
  tGapMark := 430
  tFootMark := 430
  carrierHz := 38000

/-- The fixed-byte table `FIXED` (R19): frame index and value; every other index has no entry. -/
def Config.fixedTable : List (Nat × Byte) :=
  [(0, 0x23), (1, 0xCB), (2, 0x26), (3, 0x01), (4, 0x00), (13, 0x00), (16, 0x00)]

/-- `FIXED_POS` (R5, R19): the indices that have an entry. -/
def Config.fixedPos : List Nat := Config.fixedTable.map Prod.fst

/-- The frame integer with byte `b` at index `i` and 0 elsewhere (R6). -/
def Config.byteAt (i : Nat) (b : BitVec 8) : BitVec 144 :=
  b.setWidth 144 <<< (Config.byteW * i)

/-- The mask of R57 over the frame integer: every bit of every byte of `FIXED_POS`. -/
def Config.frameMask : BitVec 144 :=
  Config.fixedPos.foldl (fun w i => w ||| Config.byteAt i (BitVec.allOnes 8)) 0

/-- The match value of R57 over the frame integer: every entry of `FIXED` at its byte. -/
def Config.frameMatch : BitVec 144 :=
  Config.fixedTable.foldl (fun w e => w ||| Config.byteAt e.1 e.2) 0

/-- The tolerance test the receive collaborator is configured with (R20): the percentage window of R37 with its
`TOL_PCT`, or a platform's own test, which the spec leaves open (D6, U7). -/
inductive Tolerance where
  | percent (pct : Nat)
  | platform (id : Nat)
  deriving DecidableEq, Repr

/-- `CAP_MAX` (R5): the longest capture the receive side can present. OPEN in R5, so it has no body; log entry 18. -/
opaque Config.capMax : Nat

/-- The platform's own tolerance test `Match(nominal, d)`, one for each `id`: OPEN in R5, so it has no body. -/
opaque Config.platformMatch (id nominal d : Nat) : Bool

/-- A free value: what `TXF` holds after a reset, which the spec leaves unspecified (R26, R165). The argument tells resets
apart. Log entry 6. -/
opaque Config.resetTxf (tick : Nat) : Frame

/-- A free value: what `RXF` holds after a reset, which the spec leaves unspecified (R26, R165). Log entry 7. -/
opaque Config.resetRxf (tick : Nat) : Frame

/-- A free value: whether the serializer moves at a step at which both halves are busy (R10 gives no order). Log entry
2. -/
opaque Config.grantTx (tick : Nat) : Bool

/-- A free value: what the transmit collaborator holds after a reset abandons a running transmission (R166, U6). Log
entry 19. -/
opaque Config.abandonedTrain (tick : Nat) : List TxStrobe

end Sys2Proof
end

