-- ==== Sys2Proof/Syntax.lean ====
section
/-! DEFINITION. The instruction type: one constructor for each row of the opcode table (R50, R57, R58). -/

namespace Sys2Proof

/-- The rows of spec/opcode_table.json, in the table's order. Only `FRAME18` has operands in its code word, the payload
fields of R52; every other operand is a register or a port (R58). -/
inductive Instr where
  | symH
  | sym0
  | sym1
  | symG
  | symF
  | frame18 (p m t v f : Byte) (c : BitVec 24) (x : BitVec 16) (k : Byte)
  | txSend
  | rxDecode
  | cmdNone
  | cmdRefused
  | txCarrier
  | txHdr
  | txBit
  | txGap
  | txFoot
  | txPerform
  | rxHdr
  | rxBit
  | rxChk
  | rxDone
  | txIdle
  | rxIdle
  deriving DecidableEq, Repr

end Sys2Proof
end

