-- ==== Sys2Proof/WellFormed.lean ====
section
/-! DEFINITION. Which instructions have a code word that reads back as themselves. The payload fields of `FRAME18` have
exactly the widths of R52, so every value of them is well formed; `RX.DONE` is the one row with no code of its own
(R58). -/

namespace Sys2Proof

/-- Whether the row has a code of its own: all but `RX.DONE`, which "has no phase code of its own" (R58, R94). -/
def Instr.hasOwnCode : Instr → Bool
  | .rxDone => false
  | .symH | .sym0 | .sym1 | .symG | .symF => true
  | .frame18 _ _ _ _ _ _ _ _ => true
  | .txSend | .rxDecode | .cmdNone | .cmdRefused => true
  | .txCarrier | .txHdr | .txBit | .txGap | .txFoot | .txPerform | .txIdle => true
  | .rxHdr | .rxBit | .rxChk | .rxIdle => true

/-- An instruction is well formed when it can stand as a code word of its own. -/
def Instr.wellFormed (i : Instr) : Bool := i.hasOwnCode

end Sys2Proof
end

