-- ==== Sys2Proof/Decode.lean ====
section
/-! DEFINITION. The code spaces of 30_encoding.md, the decoder, total and refusing by name, and the encoder (R50, R52,
R57, R58, R65). -/

namespace Sys2Proof

/-- A word of one of the block's code spaces (R50, R52, R58): an item of the pulse train as its two durations (the space
absent for a lone mark), a 144-bit frame integer, a value of the command port, or a value of a phase register. -/
inductive CodeWord where
  | item (mark : Nat) (space : Option Nat)
  | frame (w : BitVec 144)
  | cmd (c : BitVec 2)
  | txPhase (c : BitVec 3)
  | rxPhase (c : BitVec 2)
  deriving DecidableEq, Repr

/-- Why a code word is no instruction: its durations are those of no symbol of R50, its fixed bytes fail R57, or it is the
phase code 7 that never occurs (R14, U9). -/
inductive DecodeError where
  | noSymbol
  | fixedBytesWrong
  | unusedTxPhase
  deriving DecidableEq, Repr

/-- The frame integer of a `FRAME18` word: the payload fields at the places of R52 over the fixed bytes of R57. -/
def frameWord (p m t v f : Byte) (c : BitVec 24) (x : BitVec 16) (k : Byte) : BitVec 144 :=
  (k.setWidth 144 <<< 136) ||| (x.setWidth 144 <<< 112) ||| (c.setWidth 144 <<< 80) ||| (f.setWidth 144 <<< 72) |||
    (v.setWidth 144 <<< 64) ||| (t.setWidth 144 <<< 56) ||| (m.setWidth 144 <<< 48) ||| (p.setWidth 144 <<< 40) |||
    Config.frameMatch

/-- The one test of the frame format (R57): the seven fixed bytes, as a mask and a match. -/
def frameMatches (w : BitVec 144) : Bool := (w &&& Config.frameMask) == Config.frameMatch

/-- The symbols of R50, recognised by their exact nominal durations (R51). -/
def decodeItem (mark : Nat) (space : Option Nat) : Except DecodeError Instr :=
  let t := Config.timing
  if mark = t.tHdrMark ∧ space = some t.tHdrSpace then .ok .symH
  else if mark = t.tBitMark ∧ space = some t.tZeroSpace then .ok .sym0
  else if mark = t.tBitMark ∧ space = some t.tOneSpace then .ok .sym1
  else if mark = t.tGapMark ∧ space = some t.tMinGap then .ok .symG
  else if mark = t.tFootMark ∧ space = none then .ok .symF
  else .error .noSymbol

/-- The frame format of R52 and R57: fields are pulled out here, once. -/
def decodeFrame (w : BitVec 144) : Except DecodeError Instr :=
  if frameMatches w then
    .ok (.frame18 (w.extractLsb' 40 8) (w.extractLsb' 48 8) (w.extractLsb' 56 8) (w.extractLsb' 64 8)
      (w.extractLsb' 72 8) (w.extractLsb' 80 24) (w.extractLsb' 112 16) (w.extractLsb' 136 8))
  else .error .fixedBytesWrong

/-- The command port of R25. -/
def decodeCmd (c : BitVec 2) : Instr :=
  if c = 0b00 then .cmdNone
  else if c = 0b01 then .txSend
  else if c = 0b10 then .rxDecode
  else .cmdRefused

/-- The phase register of the serializer (R14). -/
def decodeTxPhase (c : BitVec 3) : Except DecodeError Instr :=
  if c = 0 then .ok .txIdle
  else if c = 1 then .ok .txCarrier
  else if c = 2 then .ok .txHdr
  else if c = 3 then .ok .txBit
  else if c = 4 then .ok .txGap
  else if c = 5 then .ok .txFoot
  else if c = 6 then .ok .txPerform
  else .error .unusedTxPhase

/-- The phase register of the deserializer (R15). Code 3 is `RX.CHK`: `RX.DONE` is not separately decoded (R58). -/
def decodeRxPhase (c : BitVec 2) : Instr :=
  if c = 0 then .rxIdle
  else if c = 1 then .rxHdr
  else if c = 2 then .rxBit
  else .rxChk

/-- The decoder, total over all code words. -/
def decode : CodeWord → Except DecodeError Instr
  | .item mark space => decodeItem mark space
  | .frame w => decodeFrame w
  | .cmd c => .ok (decodeCmd c)
  | .txPhase c => decodeTxPhase c
  | .rxPhase c => .ok (decodeRxPhase c)

/-- The encoder, from the tables of R50, R52, R25, R14 and R15. `RX.DONE` has the code of the `RX.CHK` it ends (R58). -/
def encode : Instr → CodeWord
  | .symH => .item Config.timing.tHdrMark (some Config.timing.tHdrSpace)
  | .sym0 => .item Config.timing.tBitMark (some Config.timing.tZeroSpace)
  | .sym1 => .item Config.timing.tBitMark (some Config.timing.tOneSpace)
  | .symG => .item Config.timing.tGapMark (some Config.timing.tMinGap)
  | .symF => .item Config.timing.tFootMark none
  | .frame18 p m t v f c x k => .frame (frameWord p m t v f c x k)
  | .cmdNone => .cmd 0b00
  | .txSend => .cmd 0b01
  | .rxDecode => .cmd 0b10
  | .cmdRefused => .cmd 0b11
  | .txIdle => .txPhase 0
  | .txCarrier => .txPhase 1
  | .txHdr => .txPhase 2
  | .txBit => .txPhase 3
  | .txGap => .txPhase 4
  | .txFoot => .txPhase 5
  | .txPerform => .txPhase 6
  | .rxIdle => .rxPhase 0
  | .rxHdr => .rxPhase 1
  | .rxBit => .rxPhase 2
  | .rxChk => .rxPhase 3
  | .rxDone => .rxPhase 3

/-- The code word a numeric word of the opcode table stands for. DESIGN CHOICE (log entry 14, safe): the table gives the
same numbers to several code spaces and says the space only in words, so a number is read where the outside world can
put it: 144 bits in the frame format, otherwise at the command port, and the numbers only `TX_PHASE` has (4 to 7) in that
register. A row of no bits selects nothing. -/
def codeWordOfTable (nbits w : Nat) : Option CodeWord :=
  if nbits = 0 then none
  else if nbits = 144 then (if w < 2 ^ 144 then some (.frame (BitVec.ofNat 144 w)) else none)
  else if w < 4 then some (.cmd (BitVec.ofNat 2 w))
  else if w < 8 then some (.txPhase (BitVec.ofNat 3 w))
  else none

/-- The instruction the decoder reads from a numeric word of the opcode table. -/
def decodeTableWord (nbits w : Nat) : Option Instr :=
  match codeWordOfTable nbits w with
  | none => none
  | some c =>
    match decode c with
    | .ok i => some i
    | .error _ => none

/-- The kind bit of an event on a port: 1 for a mark, 0 for a space (R65). -/
def Event.kindBit : Event → BitVec 1
  | .mark _ => 1
  | .space _ => 0

/-- The duration of an event on a port (R65). -/
def Event.dur : Event → Nat
  | .mark d => d
  | .space d => d

/-- The event a port's kind bit and duration stand for (R65). -/
def Event.ofPort (kind : BitVec 1) (d : Nat) : Event :=
  if kind = 1 then .mark d else .space d

end Sys2Proof
end

