-- ==== Sys2Proof/Machine/State.lean ====
section
/-! DEFINITION. The state of the block and of its collaborators as the block sees them, as plain data, and its reset
value (10_state.md; R33 to R36, R40). INVENTORY.md lists each field with its rule. -/

namespace Sys2Proof.Machine

/-- `TX_PHASE` (R14). The code 7 "never occurs" and has no constructor (U9). -/
inductive TxPhase where
  | idle
  | carrier
  | hdr
  | bit
  | gap
  | foot
  | perform
  deriving DecidableEq, Repr

/-- `RX_PHASE` (R15). -/
inductive RxPhase where
  | idle
  | hdr
  | bit
  | chk
  deriving DecidableEq, Repr

/-- `RX_STATUS` (R16, R141). The codes 5 to 7 "never occur" and have no constructor (U9). -/
inductive RxStatus where
  | none
  | ok
  | headerMismatch
  | bitTimingMismatch
  | fixedByteMismatch
  deriving DecidableEq, Repr

/-- A word of a code space that no port or register selects, placed for the next step: an item of the symbol alphabet
(R50) or a frame of the frame format (R52). The MODEL's own (log entry 12). -/
inductive Datum where
  | item (mark : Nat) (space : Option Nat)
  | frame (w : BitVec 144)
  deriving DecidableEq, Repr

/-- Why the model stops with a fault: a read the spec itself forbids. No instruction raises one. -/
inductive Fault where
  /-- Raised by the frame consumer's read of `RXF` or `rx_frame` while `RX_STATUS` is not `OK` (R12, R103, U4). Safe. -/
  | rxFrameNotValid
  deriving DecidableEq, Repr

/-- Why the model gives a step no meaning. -/
inductive Refusal where
  /-- Raised by exec for an instruction that has no meaning yet. Safe. -/
  | notModelled (mnemonic : String)
  /-- Raised by `CMD.REFUSED`: both start bits at once (R25, U5). Safe. -/
  | bothStarts
  /-- Raised by `TX.SEND` given while the serializer is not idle (R25, R168, U5). Safe. -/
  | txNotIdle
  /-- Raised by `RX.DECODE` given while the deserializer is not idle (R25, R168, U5). Safe. -/
  | rxNotIdle
  /-- Raised by a step whose next word is no instruction of its code space. Safe. -/
  | noSuchCode (e : DecodeError)
  deriving DecidableEq, Repr

/-- The whole state. -/
structure State where
  /-- `TXF[0..17]` (R11). -/
  txf : Frame
  /-- Whether `TXF` holds a value of the spec's: false from a reset until a `TX.SEND` writes all 18 bytes (R26, R165). The
  MODEL's own record, which no instruction reads (log entry 6). -/
  txfWritten : Bool
  /-- `TX_PHASE` (R14). -/
  txPhase : TxPhase
  /-- `TX_REP` (R14). -/
  txRep : Fin Config.nRep
  /-- `TX_BYTE` (R14). -/
  txByte : Fin Config.nBytes
  /-- `TX_BIT` (R14). -/
  txBit : Fin Config.byteW
  /-- `RXF[0..17]` (R12). -/
  rxf : Frame
  /-- Which bytes of `RXF` hold a value of the spec's: none from a reset until `RX.BIT` begins a byte (R26, R165). The
  MODEL's own record, which no instruction reads (log entry 7). -/
  rxfWritten : BitVec 18
  /-- `RX_PHASE` (R15). -/
  rxPhase : RxPhase
  /-- `RX_BYTE` (R15). -/
  rxByte : Fin Config.nBytes
  /-- `RX_BIT` (R15). -/
  rxBit : Fin Config.byteW
  /-- `RX_CUR` (R15). -/
  rxCur : Nat
  /-- `RX_STATUS` (R16). -/
  rxStatus : RxStatus
  /-- `RX_ERRPOS` (R16). -/
  rxErrpos : Byte
  /-- The tolerance configuration (R20). -/
  tol : Tolerance
  /-- The port `cmd` (R24, R25). -/
  cmd : BitVec 2
  /-- The port `tx_frame` (R24). -/
  txFrame : BitVec 144
  /-- The port `cap`: the capture the receive driver presents (R24). -/
  capPort : List Event
  /-- `CAP`: the capture of the running decode, fixed for the whole operation (R35, R48). -/
  cap : List Event
  /-- What the transmit collaborator was given since the last send started, in order (R33, R34, R45). -/
  txOut : List TxStrobe
  /-- The frames handed over to the frame consumer, in order (R40, R105). -/
  handed : List Frame
  /-- A symbol or frame word placed for the next step. The MODEL's own (log entry 12). -/
  datum : Option Datum
  /-- How many steps were taken while both halves were busy, and resets of a running block. The MODEL's own, the argument of
  the free values of Config (log entries 2, 6, 7 and 19). -/
  tick : Nat
  deriving DecidableEq, Repr

/-- The state right after reset (R26, R165). The frame buffers hold a free value each, since the spec leaves their contents
unspecified, "never as zero" (DESIGN CHOICE, log entries 6 and 7). The values of the input ports, of the held capture and of the list of frames
handed over are DESIGN CHOICES (log entries 8 and 22), and the tolerance is the spec's default (log entry 9). -/
def State.reset : State where
  txf := Config.resetTxf 0
  txfWritten := false
  txPhase := .idle
  txRep := 0
  txByte := 0
  txBit := 0
  rxf := Config.resetRxf 0
  rxfWritten := 0
  rxPhase := .idle
  rxByte := 0
  rxBit := 0
  rxCur := 0
  rxStatus := .none
  rxErrpos := 0
  tol := .percent 25
  cmd := 0
  txFrame := 0
  capPort := []
  cap := []
  txOut := []
  handed := []
  datum := none
  tick := 0

end Sys2Proof.Machine
end

