-- ==== Sys2Proof/Machine/Flags.lean ====
section
/-! DEFINITION. The codes of the phase and status registers and every flag the spec derives (R14 to R17, R24, R141). -/

namespace Sys2Proof.Machine

/-- The code of a serializer phase (R14). -/
def TxPhase.code : TxPhase → BitVec 3
  | .idle => 0
  | .carrier => 1
  | .hdr => 2
  | .bit => 3
  | .gap => 4
  | .foot => 5
  | .perform => 6

/-- The code of a deserializer phase (R15). -/
def RxPhase.code : RxPhase → BitVec 2
  | .idle => 0
  | .hdr => 1
  | .bit => 2
  | .chk => 3

/-- The code of a status, as the port `rx_status` shows it (R16, R141). -/
def RxStatus.code : RxStatus → BitVec 3
  | .none => 0
  | .ok => 1
  | .headerMismatch => 2
  | .bitTimingMismatch => 3
  | .fixedByteMismatch => 4

/-- The status an error leaves (R141). -/
def errorStatus : RxError → RxStatus
  | .headerMismatch => .headerMismatch
  | .bitTimingMismatch _ => .bitTimingMismatch
  | .fixedByteMismatch _ => .fixedByteMismatch

/-- The position an error records in `RX_ERRPOS` (R141). -/
def errorPos : RxError → Byte
  | .headerMismatch => 0
  | .bitTimingMismatch pos => BitVec.ofNat 8 pos
  | .fixedByteMismatch pos => BitVec.ofNat 8 pos

/-- The wire index of bit `j` of byte `i` (R6, R141). -/
def wireIndex (i : Fin Config.nBytes) (j : Fin Config.byteW) : Nat := Config.byteW * i.val + j.val

/-- `TX_BUSY`: the serializer is not idle (R17). -/
def State.txBusy (s : State) : Bool := s.txPhase != .idle

/-- The deserializer is not idle (R25). -/
def State.rxBusy (s : State) : Bool := s.rxPhase != .idle

/-- `RX_FRAME_VALID`: 1 exactly when `RX_STATUS` is `OK` (R16). -/
def State.rxFrameValid (s : State) : Bool := s.rxStatus == .ok

end Sys2Proof.Machine
end

