-- ==== Sys2Proof/Machine/Operands.lean ====
section
/-! DEFINITION. The operand forms: frame bits and the 144-bit ports (R6, R24, R30, R54), the events of a symbol (R50, R51),
the tolerance test (R37) and the query on two events of a capture (R36), the fixed-byte table (R19). -/

namespace Sys2Proof.Machine

/-- Bit `j` of a byte, bit 0 the least significant (R6). -/
def byteBit (b : Byte) (j : Nat) : Bool := b.getLsbD j

/-- A byte with bit `j` set to 1 (`RXF[i][j] <- 1`, R92). -/
def byteSetBit (b : Byte) (j : Nat) : Byte := b ||| (1#8 <<< j)

/-- `F[i][j]`; an index past the last byte holds no bit and reads 0 (R6: indices are 0 to 17). -/
def frameBit (F : Frame) (i j : Nat) : Bool :=
  if h : i < Config.nBytes then byteBit F[i] j else false

/-- The `k`-th data bit on the wire, `F[k div 8][k mod 8]` (R6, R30). -/
def wireBit (F : Frame) (k : Nat) : Bool := frameBit F (k / Config.byteW) (k % Config.byteW)

/-- The frame on a 144-bit port: bits `8i+7 : 8i` are byte `i` (R24, R30). -/
def frameOfPort (w : BitVec 144) : Frame := Vector.ofFn fun i : Fin Config.nBytes => w.extractLsb' (Config.byteW * i.val) 8

/-- The frame integer of a frame, as a 144-bit port shows it (R6, R24). -/
def frameInt (F : Frame) : BitVec 144 := F.foldr (fun b acc => (acc <<< Config.byteW) ||| b.setWidth 144) 0

/-- The nominal events of a symbol (R50, R51, R54). -/
def symbolEvents (y : Symbol) : List Event :=
  let t := Config.timing
  match y with
  | .header => [.mark t.tHdrMark, .space t.tHdrSpace]
  | .zero => [.mark t.tBitMark, .space t.tZeroSpace]
  | .one => [.mark t.tBitMark, .space t.tOneSpace]
  | .gap => [.mark t.tGapMark, .space t.tMinGap]
  | .footer => [.mark t.tFootMark]

/-- The symbol that carries a data bit (R54). -/
def bitSymbol (b : Bool) : Symbol := if b then .one else .zero

/-- The lower edge of the default tolerance window (R37). At a percentage above 100 the truncated difference gives 0,
which every duration passes, as the formula's negative bound does. -/
def toleranceLower (pct n : Nat) : Nat := n * (100 - pct) / 100

/-- The upper edge of the default tolerance window (R37). -/
def toleranceUpper (pct n : Nat) : Nat := n * (100 + pct) / 100

/-- `Match(nominal, d)` (R37). -/
def accepts (t : Tolerance) (nominal d : Nat) : Bool :=
  match t with
  | .percent pct => decide (toleranceLower pct nominal ≤ d) && decide (d ≤ toleranceUpper pct nominal)
  | .platform id => Config.platformMatch id nominal d

/-- The test of R36 at position `c`, without the side effect: the next two events are a mark matching `m` and a space
matching `sp`. A missing event or one of the other kind does not match (R35). -/
def itemMatches (t : Tolerance) (cap : List Event) (c m sp : Nat) : Bool :=
  match cap[c]?, cap[c + 1]? with
  | some (.mark d0), some (.space d1) => accepts t m d0 && accepts t sp d1
  | _, _ => false

/-- The entry of `FIXED` at a frame index, if it has one (R19). -/
def fixedAt (i : Nat) : Option Byte := Config.fixedTable.lookup i

/-- Byte `i` passes the comparison of `RX.CHK`: its index has no entry in `FIXED`, or it equals the entry (R93). -/
def byteAllowed (i : Nat) (b : Byte) : Bool :=
  match fixedAt i with
  | some v => b == v
  | none => true

end Sys2Proof.Machine
end

