-- ==== Sys2Proof/Machine/Ops.lean ====
section
/-! DEFINITION. The named operations on the registers, the two pulse trains and the collaborators, each a single update;
the shared operations built from them: emitting a symbol, a query, starting a half, RAISING AN ERROR (R146), the success
action (R94), the frame consumer's read (R103), and reset (R26, R166). -/

namespace Sys2Proof.Machine

/-! ### Single updates -/

/-- One strobe of the transmit ports reaches the transmit collaborator (R33, R34). -/
def State.strobe (x : TxStrobe) (s : State) : State := { s with txOut := s.txOut ++ [x] }

/-- The write of `TX_PC` (R7, R14). -/
def State.setTxPc (ph : TxPhase) (r : Fin Config.nRep) (i : Fin Config.nBytes) (j : Fin Config.byteW) (s : State) : State :=
  { s with txPhase := ph, txRep := r, txByte := i, txBit := j }

/-- The write of `RX_PC` (R7, R15). -/
def State.setRxPc (ph : RxPhase) (i : Fin Config.nBytes) (j : Fin Config.byteW) (c : Nat) (s : State) : State :=
  { s with rxPhase := ph, rxByte := i, rxBit := j, rxCur := c }

/-- The write of `RX_CUR` alone (R36). -/
def State.setRxCur (c : Nat) (s : State) : State := { s with rxCur := c }

/-- The write of `RX_STATUS` and `RX_ERRPOS`; `RX_FRAME_VALID` follows (R16). -/
def State.setRxResult (st : RxStatus) (pos : Byte) (s : State) : State :=
  { s with rxStatus := st, rxErrpos := pos }

/-- The clearing of one byte of `RXF`, which gives the whole byte a value (R12, R92). -/
def State.clearRxf (i : Fin Config.nBytes) (s : State) : State :=
  { s with rxf := s.rxf.set i.val 0 i.isLt, rxfWritten := s.rxfWritten ||| (1#18 <<< i.val) }

/-- `RXF[i][j] <- 1`: the other bits of the byte keep what they hold (R92). -/
def State.setRxfBit (i : Fin Config.nBytes) (j : Fin Config.byteW) (s : State) : State :=
  { s with rxf := s.rxf.set i.val (byteSetBit s.rxf[i.val] j.val) i.isLt }

/-- The latch of all 18 bytes of `TXF` from the port `tx_frame` (R11, R25). -/
def State.loadTxf (s : State) : State := { s with txf := frameOfPort s.txFrame, txfWritten := true }

/-- The transmit collaborator begins a transmission with an empty train (R34, R167). -/
def State.clearTrain (s : State) : State := { s with txOut := [] }

/-- The capture of the operation is the one the receive driver presents (R35, R48). -/
def State.latchCap (s : State) : State := { s with cap := s.capPort }

/-- A frame reaches the frame consumer (R40). -/
def State.handOver (F : Frame) (s : State) : State := { s with handed := s.handed ++ [F] }

/-- The command port after the start it caused: no command (R25; log entry 3). -/
def State.takeCmd (s : State) : State := { s with cmd := 0 }

/-- The word placed for this step has been used (log entry 12). -/
def State.takeDatum (s : State) : State := { s with datum := none }

/-- The caller drives the port `tx_frame` (R24). -/
def State.driveTxFrame (w : BitVec 144) (s : State) : State := { s with txFrame := w }

/-- The receive driver presents a capture on the port `cap` (R24, R35); one longer than `CAP_MAX` cannot be presented (R5,
U11). No rule of the block depends on the bound. -/
def State.presentCap (cap : List Event) (s : State) : Option State :=
  if cap.length ≤ Config.capMax then some { s with capPort := cap } else none

/-- A step taken while both halves are busy uses one free choice (log entry 2). -/
def State.countTick (s : State) : State := { s with tick := s.tick + 1 }

/-! ### Views -/

/-- `TRAIN`: the events among the strobes, in order (R21, R33). -/
def State.train (s : State) : List Event :=
  s.txOut.filterMap fun x =>
    match x with
    | .event e => some e
    | _ => none

/-- A byte of `RXF` as the block itself reads it (R12, R93). -/
def State.readRxf (i : Fin Config.nBytes) (s : State) : Byte := s.rxf[i.val]

/-- A bit of `TXF` as `TX.BIT` reads it (R11, R73). -/
def State.readTxfBit (i : Fin Config.nBytes) (j : Fin Config.byteW) (s : State) : Bool := byteBit s.txf[i.val] j.val

/-- The frame consumer's read of the port `rx_frame`: a fault outside status `OK` (R24, R103, R174). -/
def State.rxFramePort (s : State) : Except Fault (BitVec 144) :=
  if s.rxFrameValid then .ok (frameInt s.rxf) else .error .rxFrameNotValid

/-- The frame consumer's read of one byte of `RXF`: a fault outside status `OK` (R12, R103). -/
def State.consumerRead (i : Fin Config.nBytes) (s : State) : Except Fault Byte :=
  if s.rxFrameValid then .ok s.rxf[i.val] else .error .rxFrameNotValid

/-! ### Serializer operations -/

/-- `Emit(e)` (R33). -/
def State.emit (e : Event) (s : State) : State := s.strobe (.event e)

/-- The events of a symbol, one `Emit` each, mark first (R33, R50): they are appended in order. -/
def State.emitSymbol (y : Symbol) (s : State) : State :=
  { s with txOut := s.txOut ++ (symbolEvents y).map .event }

/-- `SetCarrier(hz)` (R34). -/
def State.setCarrier (hz : Nat) (s : State) : State := s.strobe (.carrier hz)

/-- `Perform()` (R34): one step, however long the driver blocks (U10). -/
def State.performTx (s : State) : State := s.strobe .perform

/-- The successor of `TX.BIT` (R73, R77). -/
def State.advanceTx (s : State) : State :=
  if s.txBit.val + 1 < Config.byteW then s.setTxPc .bit s.txRep s.txByte (s.txBit + 1)
  else if s.txByte.val + 1 < Config.nBytes then s.setTxPc .bit s.txRep (s.txByte + 1) 0
  else if s.txRep.val + 1 < Config.nRep then s.setTxPc .gap 0 0 0
  else s.setTxPc .foot 1 0 0

/-- The start of a send (R25, R34, R70). -/
def State.startTx (s : State) : State :=
  s.loadTxf.clearTrain.takeCmd.setTxPc .carrier 0 0 0

/-! ### Deserializer operations -/

/-- `ExpectItem(m, sp)` (R36): a true answer consumes two events, a false one (none) changes nothing. -/
def State.expectItem (m sp : Nat) (s : State) : Option State :=
  if itemMatches s.tol s.cap s.rxCur m sp then some (s.setRxCur (s.rxCur + 2)) else none

/-- TAKING AN ERROR, the block's one kind of exception (R146): the status and the position are recorded, the position
returns to idle, nothing else changes. There is nothing to return from (R148). -/
def State.raiseRx (e : RxError) (s : State) : State :=
  (s.setRxResult (errorStatus e) (errorPos e)).setRxPc .idle 0 0 0

/-- `RXF[i] <- 0` when bit 0 of a byte is expected (R92). -/
def State.beginByte (s : State) : State :=
  if s.rxBit = 0 then s.clearRxf s.rxByte else s

/-- The successor of `RX.BIT` (R92, R95). -/
def State.advanceRx (s : State) : State :=
  if s.rxBit.val + 1 < Config.byteW then s.setRxPc .bit s.rxByte (s.rxBit + 1) s.rxCur
  else s.setRxPc .chk s.rxByte 0 s.rxCur

/-- The success action (R94): the status, the hand-over, the idle position. -/
def State.finishRx (s : State) : State :=
  ((s.setRxResult .ok 0).handOver s.rxf).setRxPc .idle 0 0 0

/-- The successor of `RX.CHK` when nothing is raised (R93, R95). -/
def State.passCheck (s : State) : State :=
  if s.rxByte.val + 1 < Config.nBytes then s.setRxPc .bit (s.rxByte + 1) 0 s.rxCur else s.finishRx

/-- The start of a decode (R25, R35, R48). -/
def State.startRx (s : State) : State :=
  ((s.latchCap.takeCmd).setRxResult .none 0).setRxPc .hdr 0 0 0

/-! ### Reset of a running block -/

/-- Reset (R26, R165, R166): every register takes its reset value and a running operation is abandoned without a status;
the frame buffers hold a free value again; the tolerance is not changed; the ports and what the frame consumer already took belong to others and stay. The train the
transmit collaborator holds is empty, or, where a transmission was abandoned, a free value (log entry 19). -/
def State.resetBlock (s : State) : State :=
  { State.reset with
    txf := Config.resetTxf (s.tick + 1)
    rxf := Config.resetRxf (s.tick + 1)
    tol := s.tol
    cmd := s.cmd
    txFrame := s.txFrame
    capPort := s.capPort
    cap := s.cap
    handed := s.handed
    txOut := if s.txBusy then Config.abandonedTrain s.tick else []
    datum := s.datum
    tick := s.tick + 1 }

end Sys2Proof.Machine
end

