-- ==== Sys2Proof/Machine/Command.lean ====
section
/-! DEFINITION. The four values of the command port (R25). -/

namespace Sys2Proof.Machine

/-- `TX.SEND` (R25, R70): the start of a send; refused while the serializer is not idle. -/
def execTxSend (s : State) : Host.Outcome State Fault Refusal :=
  if s.txBusy then .refused .txNotIdle else .next s.startTx

/-- `RX.DECODE` (R25, R90): the start of a decode; refused while the deserializer is not idle. -/
def execRxDecode (s : State) : Host.Outcome State Fault Refusal :=
  if s.rxBusy then .refused .rxNotIdle else .next s.startRx

/-- `CMD.NONE` (R25): "nothing". -/
def execCmdNone (s : State) : Host.Outcome State Fault Refusal := .next s

/-- `CMD.REFUSED` (R25, U5): "a model gives this no meaning". -/
def execCmdRefused (_s : State) : Host.Outcome State Fault Refusal := .refused .bothStarts

end Sys2Proof.Machine
end

