-- ==== Sys2Proof/Machine/Deserializer.lean ====
section
/-! DEFINITION. The micro-operations of the deserializer and its idle phase (R91 to R95). An error they raise is a defined
next state, not a fault of the model (R149). -/

namespace Sys2Proof.Machine

/-- `RX.IDLE` (R58, R95): "Phase 0 (`IDLE`) executes nothing". -/
def execRxIdle (s : State) : Host.Outcome State Fault Refusal := .next s

/-- `RX.HDR` (R91). -/
def execRxHdr (s : State) : Host.Outcome State Fault Refusal :=
  match s.expectItem Config.timing.tHdrMark Config.timing.tHdrSpace with
  | some s' => .next (s'.setRxPc .bit 0 0 s'.rxCur)
  | none => .next (s.raiseRx .headerMismatch)

/-- `RX.BIT` (R92): the one-space is tried first (R97). -/
def execRxBit (s : State) : Host.Outcome State Fault Refusal :=
  let s0 := s.beginByte
  match s0.expectItem Config.timing.tBitMark Config.timing.tOneSpace with
  | some s1 => .next (s1.setRxfBit s.rxByte s.rxBit).advanceRx
  | none =>
    match s0.expectItem Config.timing.tBitMark Config.timing.tZeroSpace with
    | some s2 => .next s2.advanceRx
    | none => .next (s0.raiseRx (.bitTimingMismatch (wireIndex s.rxByte s.rxBit)))

/-- `RX.CHK` (R93): a fixed byte is compared, any other is passed. -/
def execRxChk (s : State) : Host.Outcome State Fault Refusal :=
  if byteAllowed s.rxByte.val (s.readRxf s.rxByte) then .next s.passCheck
  else .next (s.raiseRx (.fixedByteMismatch s.rxByte.val))

/-- `RX.DONE` (R94): the last action of the `RX.CHK` of byte 17. -/
def execRxDone (s : State) : Host.Outcome State Fault Refusal := .next s.finishRx

end Sys2Proof.Machine
end

