-- ==== Sys2Proof/Machine/Serializer.lean ====
section
/-! DEFINITION. The micro-operations of the serializer and its idle phase (R71 to R77). -/

namespace Sys2Proof.Machine

/-- `TX.IDLE` (R58, R77): "Phase 0 (`IDLE`) executes nothing". -/
def execTxIdle (s : State) : Host.Outcome State Fault Refusal := .next s

/-- `TX.CARRIER` (R71). -/
def execTxCarrier (s : State) : Host.Outcome State Fault Refusal :=
  .next ((s.setCarrier Config.timing.carrierHz).setTxPc .hdr 0 0 0)

/-- `TX.HDR` (R72). -/
def execTxHdr (s : State) : Host.Outcome State Fault Refusal :=
  .next ((s.emitSymbol .header).setTxPc .bit s.txRep 0 0)

/-- `TX.BIT` (R73). -/
def execTxBit (s : State) : Host.Outcome State Fault Refusal :=
  .next (s.emitSymbol (bitSymbol (s.readTxfBit s.txByte s.txBit))).advanceTx

/-- `TX.GAP` (R74). -/
def execTxGap (s : State) : Host.Outcome State Fault Refusal :=
  .next ((s.emitSymbol .gap).setTxPc .hdr 1 0 0)

/-- `TX.FOOT` (R75). -/
def execTxFoot (s : State) : Host.Outcome State Fault Refusal :=
  .next ((s.emitSymbol .footer).setTxPc .perform 1 0 0)

/-- `TX.PERFORM` (R76). -/
def execTxPerform (s : State) : Host.Outcome State Fault Refusal :=
  .next (s.performTx.setTxPc .idle 0 0 0)

end Sys2Proof.Machine
end

