-- ==== Sys2Proof/Machine/Symbols.lean ====
section
/-! DEFINITION. The rows of the symbol alphabet and of the frame format (R50, R52). They are not operations (R58) and no
register or port selects them: DESIGN CHOICES of log entries 10, 11 and 12 give each the one effect the spec names for
it. -/

namespace Sys2Proof.Machine

/-- `SYM.H`: the header item goes to the transmit collaborator (R50, R51). -/
def execSymH (s : State) : Host.Outcome State Fault Refusal := .next (s.emitSymbol .header).takeDatum

/-- `SYM.0`: the item of a data bit 0 (R50, R51, R54). -/
def execSym0 (s : State) : Host.Outcome State Fault Refusal := .next (s.emitSymbol .zero).takeDatum

/-- `SYM.1`: the item of a data bit 1 (R50, R51, R54). -/
def execSym1 (s : State) : Host.Outcome State Fault Refusal := .next (s.emitSymbol .one).takeDatum

/-- `SYM.G`: the gap item (R50, R51). -/
def execSymG (s : State) : Host.Outcome State Fault Refusal := .next (s.emitSymbol .gap).takeDatum

/-- `SYM.F`: the lone closing mark (R50, R51). -/
def execSymF (s : State) : Host.Outcome State Fault Refusal := .next (s.emitSymbol .footer).takeDatum

/-- `FRAME18`: the caller presents the frame on `tx_frame`, laid out as R52 says (R24). -/
def execFrame18 (p m t v f : Byte) (c : BitVec 24) (x : BitVec 16) (k : Byte) (s : State) :
    Host.Outcome State Fault Refusal :=
  .next (s.driveTxFrame (frameWord p m t v f c x k)).takeDatum

end Sys2Proof.Machine
end

