-- ==== Sys2Proof/Machine/Dispatch.lean ====
section
/-! DEFINITION. The one match from an instruction to its meaning. -/

namespace Sys2Proof.Machine

def exec (i : Instr) (s : State) : Host.Outcome State Fault Refusal :=
  match i with
  | .symH => Sys2Proof.Machine.execSymH s
  | .sym0 => Sys2Proof.Machine.execSym0 s
  | .sym1 => Sys2Proof.Machine.execSym1 s
  | .symG => Sys2Proof.Machine.execSymG s
  | .symF => Sys2Proof.Machine.execSymF s
  | .frame18 p m t v f c x k => Sys2Proof.Machine.execFrame18 p m t v f c x k s
  | .txSend => Sys2Proof.Machine.execTxSend s
  | .rxDecode => Sys2Proof.Machine.execRxDecode s
  | .cmdNone => Sys2Proof.Machine.execCmdNone s
  | .cmdRefused => Sys2Proof.Machine.execCmdRefused s
  | .txCarrier => Sys2Proof.Machine.execTxCarrier s
  | .txHdr => Sys2Proof.Machine.execTxHdr s
  | .txBit => Sys2Proof.Machine.execTxBit s
  | .txGap => Sys2Proof.Machine.execTxGap s
  | .txFoot => Sys2Proof.Machine.execTxFoot s
  | .txPerform => Sys2Proof.Machine.execTxPerform s
  | .rxHdr => Sys2Proof.Machine.execRxHdr s
  | .rxBit => Sys2Proof.Machine.execRxBit s
  | .rxChk => Sys2Proof.Machine.execRxChk s
  | .rxDone => Sys2Proof.Machine.execRxDone s
  | .txIdle => Sys2Proof.Machine.execTxIdle s
  | .rxIdle => Sys2Proof.Machine.execRxIdle s

end Sys2Proof.Machine
end

