-- ==== Sys2Proof/Machine/Fetch.lean ====
section
/-! DEFINITION. Which code word the next step runs (R10, R25, R58). One step runs one code word (D1). -/

namespace Sys2Proof.Machine

/-- A placed word as a code word. -/
def datumWord : Datum → CodeWord
  | .item mark space => .item mark space
  | .frame w => .frame w

/-- The code word of the next step. DESIGN CHOICE (log entries 1, 2, 12 and 23): a placed word first, then a command on
the port, then the micro-operation of a busy half; where both halves are busy a free value says which. With no command
and both halves idle the port reads 00. -/
def nextWord (s : State) : CodeWord :=
  match s.datum with
  | some d => datumWord d
  | none =>
    if s.cmd ≠ 0 then .cmd s.cmd
    else if s.txBusy && s.rxBusy then
      (if Config.grantTx s.tick then .txPhase s.txPhase.code else .rxPhase s.rxPhase.code)
    else if s.txBusy then .txPhase s.txPhase.code
    else if s.rxBusy then .rxPhase s.rxPhase.code
    else .cmd s.cmd

/-- The instruction of the next step. -/
def fetch (s : State) : Except DecodeError Instr := decode (nextWord s)

/-- What a step does before the instruction: a step taken while both halves are busy is counted, for the free value. -/
def beforeExec (s : State) : State := if s.txBusy && s.rxBusy then s.countTick else s

/-- The state in which the code word stands where the next step reads it (log entry 15). A phase code of the serializer
takes the position R77 gives that phase; the half that is not meant is idle, so that no free choice is left. -/
def placeWord (s : State) : CodeWord → State
  | .item mark space => { s with datum := some (.item mark space) }
  | .frame w => { s with datum := some (.frame w) }
  | .cmd c =>
    if c = 0 then ({ s with datum := none, cmd := 0 }.setTxPc .idle 0 0 0).setRxPc .idle 0 0 0
    else { s with datum := none, cmd := c }
  | .txPhase c =>
    let s0 := ({ s with datum := none, cmd := 0 }).setRxPc .idle 0 0 0
    if c = 1 then s0.setTxPc .carrier 0 0 0
    else if c = 2 then s0.setTxPc .hdr 0 0 0
    else if c = 3 then s0.setTxPc .bit 0 0 0
    else if c = 4 then s0.setTxPc .gap 0 0 0
    else if c = 5 then s0.setTxPc .foot 1 0 0
    else if c = 6 then s0.setTxPc .perform 1 0 0
    else s0.setTxPc .idle 0 0 0
  | .rxPhase c =>
    let s0 := ({ s with datum := none, cmd := 0 }).setTxPc .idle 0 0 0
    if c = 1 then s0.setRxPc .hdr 0 0 0
    else if c = 2 then s0.setRxPc .bit 0 0 2
    else if c = 3 then s0.setRxPc .chk 0 0 18
    else s0.setRxPc .idle 0 0 0

end Sys2Proof.Machine
end

