-- ==== Sys2Proof/Machine/Step.lean ====
section
/-! DEFINITION. One step of the block: the next code word, decoded and run; and the placing of an opcode-table word. -/

namespace Sys2Proof.Machine

/-- One step (D1: a step is one micro-operation, or the start a command causes). -/
def step (s : State) : Host.Outcome State Fault Refusal :=
  match fetch s with
  | .ok i => exec i (beforeExec s)
  | .error e => .refused (.noSuchCode e)

/-- The state in which the next step runs the instruction of a numeric word of the opcode table (log entries 14, 15). A
number that stands for no code word places nothing. -/
def State.withFetchWord (s : State) (nbits w : Nat) : State :=
  match codeWordOfTable nbits w with
  | some c => placeWord s c
  | none => s

end Sys2Proof.Machine
end

