-- ==== Sys2Proof/Machine/Functions.lean ====
section
/-! DEFINITION. The two normative functions of the spec, `TxTrain` (R70) and `RxDecode` (R90), and the pseudo-operations of
its textual form (R64). -/

namespace Sys2Proof.Machine

/-- `Rep(F)` (R70): one repetition, 290 events. -/
def repetition (F : Frame) : List Event :=
  symbolEvents .header ++
    (List.range Config.nBytes).flatMap fun i =>
      (List.range Config.byteW).flatMap fun j => symbolEvents (bitSymbol (frameBit F i j))

/-- `n` repetitions of the frame, the gap symbol between two of them and the footer after the last (R53, R70). -/
def repetitions (F : Frame) : Nat → List Event
  | 0 => []
  | 1 => repetition F ++ symbolEvents .footer
  | n + 2 => repetition F ++ symbolEvents .gap ++ repetitions F (n + 1)

/-- `TxTrain(F)` (R70): the whole transmission, 583 events. -/
def txTrain (F : Frame) : List Event := repetitions F Config.nRep

/-- Everything a whole `TX.SEND` hands to the transmit collaborator, in order (R70, R81). -/
def txTranscript (F : Frame) : List TxStrobe :=
  [.carrier Config.timing.carrierHz] ++ (txTrain F).map .event ++ [.perform]

/-- One bit of a capture at event position `c` (R55, R90): the one-space is tried first, then the zero-space. -/
def readBit (t : Tolerance) (cap : List Event) (c : Nat) : Option Bool :=
  if itemMatches t cap c Config.timing.tBitMark Config.timing.tOneSpace then some true
  else if itemMatches t cap c Config.timing.tBitMark Config.timing.tZeroSpace then some false
  else none

/-- The inner loop of `RxDecode` (R90): `n` more bits from bit `j` on, with the byte `b` and the position `c` so far. The
error is the failing bit's index in the byte. -/
def decodeBits (t : Tolerance) (cap : List Event) : (n j c : Nat) → Byte → Except Nat (Byte × Nat)
  | 0, _, c, b => .ok (b, c)
  | n + 1, j, c, b =>
    match readBit t cap c with
    | some true => decodeBits t cap n (j + 1) (c + 2) (b + BitVec.ofNat 8 (2 ^ j))
    | some false => decodeBits t cap n (j + 1) (c + 2) b
    | none => .error j

/-- The outer loop of `RxDecode` (R90): `n` more bytes from byte `i` on. -/
def decodeBytes (t : Tolerance) (cap : List Event) : (n i c : Nat) → Frame → RxResult
  | 0, _, _, R => .ok R
  | n + 1, i, c, R =>
    match decodeBits t cap Config.byteW 0 c 0 with
    | .error j => .err (.bitTimingMismatch (Config.byteW * i + j))
    | .ok (b, c') =>
      if byteAllowed i b then decodeBytes t cap n (i + 1) c' (R.setIfInBounds i b)
      else .err (.fixedByteMismatch i)

/-- `RxDecode(CAP)` (R90). The frame it starts from is overwritten in every byte before it is returned. -/
def rxDecode (t : Tolerance) (cap : List Event) : RxResult :=
  if itemMatches t cap 0 Config.timing.tHdrMark Config.timing.tHdrSpace then
    decodeBytes t cap Config.nBytes 0 2 (Vector.replicate Config.nBytes 0)
  else .err .headerMismatch

/-- `BYTE(v)` (R64): the eight symbols of a byte, bit 0 first. -/
def byteSymbols (v : Byte) : List Symbol := (List.range Config.byteW).map fun j => bitSymbol (byteBit v j)

/-- `REP(F)` (R64). -/
def repSymbols (F : Frame) : List Symbol := .header :: F.toList.flatMap byteSymbols

/-- `TRAIN(F)` (R64). -/
def trainSymbols (F : Frame) : List Symbol := repSymbols F ++ [.gap] ++ repSymbols F ++ [.footer]

/-- `EVENTS(s)` (R64): the event list of a symbol string. -/
def eventsOf (ys : List Symbol) : List Event := ys.flatMap symbolEvents

/-- The sum of the durations of a train, the time the collaborator needs to play it (R177). -/
def playTime (es : List Event) : Nat := (es.map Event.dur).sum

/-- The number of 1 bits among the 144 bits of a frame (R177). -/
def oneBits (F : Frame) : Nat := ((List.range Config.nBits).filter fun k => wireBit F k).length

end Sys2Proof.Machine
end

