-- ==== Sys2Proof/Safety.lean ====
section
/-! DEFINITION. What the statements mean by a good state and by a good tolerance: the named properties of `Match` (R38), the
legal positions of both halves with what each implies (R39, R77, R95, R141), and the sets of instructions of each half. -/

namespace Sys2Proof.Machine

/-! ### The tolerance (R38) -/

/-- `Match.refl`: each of the five nominal durations matches itself. -/
def MatchRefl (t : Tolerance) : Prop := ∀ n ∈ [3500, 1700, 430, 1250, 390], accepts t n n = true

/-- `Match.sep`: a nominal zero-space is no one-space. -/
def MatchSep (t : Tolerance) : Prop := accepts t 1250 390 = false

/-- `Match.disj`: no duration is both a one-space and a zero-space. -/
def MatchDisj (t : Tolerance) : Prop := ¬ ∃ d, accepts t 1250 d = true ∧ accepts t 390 d = true

/-! ### Frames -/

/-- The frame passes every comparison of `RX.CHK` (R93). -/
def FixedBytesRight (F : Frame) : Prop := ∀ m : Fin 18, byteAllowed m.val F[m.val] = true

/-! ### Captures -/

/-- The header is recognised at the first event (R91, R96). -/
def HeaderRight (t : Tolerance) (cap : List Event) : Prop := itemMatches t cap 0 3500 1700 = true

/-- The first `n` bit items are each recognised as one or zero (R55). -/
def BitsRight (t : Tolerance) (cap : List Event) (n : Nat) : Prop :=
  ∀ k < n, (readBit t cap (2 + 2 * k)).isSome = true

/-- Byte `i` as a capture carries it: bit `j` is the bit recognised at wire position `8i+j` (R56). -/
def capturedByte (t : Tolerance) (cap : List Event) (i : Nat) : Byte :=
  (List.range 8).foldl
    (fun b j => if readBit t cap (2 + 2 * (8 * i + j)) = some true then byteSetBit b j else b) 0

/-- The bytes below `n`, as the capture carries them, pass the comparisons of `RX.CHK` (R93). -/
def ChecksRight (t : Tolerance) (cap : List Event) (n : Nat) : Prop :=
  ∀ i < n, byteAllowed i (capturedByte t cap i) = true

/-! ### The serializer's invariant -/

/-- How many events of the train have been emitted when the serializer stands in a position (R77, R79). -/
def txEmitted (ph : TxPhase) (r : Fin 2) (i : Fin 18) (j : Fin 8) : Nat :=
  match ph with
  | .idle => 0
  | .carrier => 0
  | .hdr => 292 * r.val
  | .bit => 292 * r.val + 2 + 2 * wireIndex i j
  | .gap => 290
  | .foot => 582
  | .perform => 583

/-- A position of the table of R77. -/
def TxPosLegal (s : State) : Prop :=
  match s.txPhase with
  | .idle => s.txRep = 0 ∧ s.txByte = 0 ∧ s.txBit = 0
  | .carrier => s.txRep = 0 ∧ s.txByte = 0 ∧ s.txBit = 0
  | .hdr => s.txByte = 0 ∧ s.txBit = 0
  | .bit => True
  | .gap => s.txRep = 0 ∧ s.txByte = 0 ∧ s.txBit = 0
  | .foot => s.txRep = 1 ∧ s.txByte = 0 ∧ s.txBit = 0
  | .perform => s.txRep = 1 ∧ s.txByte = 0 ∧ s.txBit = 0

/-- What the transmit collaborator holds, by position: nothing before the carrier is set; then the carrier and the events
of `TxTrain(TXF)` emitted so far; between operations nothing yet, or one whole transmission (R45, R81). -/
def TxOutRight (s : State) : Prop :=
  match s.txPhase with
  | .idle => s.txOut = [] ∨ s.txOut = txTranscript s.txf
  | .carrier => s.txOut = []
  | _ =>
    s.txOut = .carrier Config.timing.carrierHz ::
      ((txTrain s.txf).take (txEmitted s.txPhase s.txRep s.txByte s.txBit)).map .event

/-- The serializer's part of the invariant: a legal position, the right strobes so far, and `TXF` written while an
operation runs (R26). -/
def TxInv (s : State) : Prop :=
  TxPosLegal s ∧ TxOutRight s ∧ (s.txBusy = true → s.txfWritten = true)

/-! ### The deserializer's invariant -/

/-- The header and the first `n` bits of the capture were recognised, and `RXF` holds those bits (R39, R56). -/
def ReadSoFar (s : State) (n : Nat) : Prop :=
  itemMatches s.tol s.cap 0 3500 1700 = true ∧
    ∀ k < n, readBit s.tol s.cap (2 + 2 * k) = some (wireBit s.rxf k)

/-- Bytes below `n` of `RXF` have been written, and those below `n'` have passed `RX.CHK`. -/
def BytesDone (s : State) (n n' : Nat) : Prop :=
  (∀ m : Fin 18, m.val < n → s.rxfWritten.getLsbD m.val = true) ∧
    (∀ m : Fin 18, m.val < n' → byteAllowed m.val s.rxf[m.val] = true)

/-- The status and position registers between operations: a pair of the table of R141; after a success also what the frame
buffer holds and what was handed over (R40, R103). -/
def ResultLegal (s : State) : Prop :=
  match s.rxStatus with
  | .none => s.rxErrpos = 0
  | .ok => s.rxErrpos = 0 ∧ ReadSoFar s 144 ∧ BytesDone s 18 18 ∧ s.handed.getLast? = some s.rxf
  | .headerMismatch => s.rxErrpos = 0
  | .bitTimingMismatch => s.rxErrpos.toNat < 144
  | .fixedByteMismatch => s.rxErrpos.toNat ∈ [0, 1, 2, 3, 4, 13, 16]

/-- No operation has ended since the last start (R16, R25). -/
def ResultCleared (s : State) : Prop := s.rxStatus = .none ∧ s.rxErrpos = 0

/-- The deserializer's part of the invariant, by position (R39, R95). -/
def RxPosRight (s : State) : Prop :=
  match s.rxPhase with
  | .idle => s.rxByte = 0 ∧ s.rxBit = 0 ∧ s.rxCur = 0 ∧ ResultLegal s
  | .hdr => s.rxByte = 0 ∧ s.rxBit = 0 ∧ s.rxCur = 0 ∧ ResultCleared s
  | .bit =>
    ResultCleared s ∧ s.rxCur = 2 + 2 * wireIndex s.rxByte s.rxBit ∧
      ReadSoFar s (wireIndex s.rxByte s.rxBit) ∧
      BytesDone s (if s.rxBit = 0 then s.rxByte.val else s.rxByte.val + 1) s.rxByte.val ∧
      (s.rxBit ≠ 0 → ∀ m, s.rxBit.val ≤ m → frameBit s.rxf s.rxByte.val m = false)
  | .chk =>
    ResultCleared s ∧ s.rxBit = 0 ∧ s.rxCur = 2 + 2 * (8 * s.rxByte.val + 8) ∧
      ReadSoFar s (8 * s.rxByte.val + 8) ∧ BytesDone s (s.rxByte.val + 1) s.rxByte.val

/-- The deserializer's invariant: the right position, and every frame the consumer ever got has its fixed bytes right
(R40, R57). -/
def RxInv (s : State) : Prop := RxPosRight s ∧ ∀ F ∈ s.handed, FixedBytesRight F

/-- The invariant of the whole block, for the block's own runs (no placed word: log entry 12). -/
def Inv (s : State) : Prop := s.datum = none ∧ TxInv s ∧ RxInv s

/-! ### Whole runs -/

/-- The machine runs `n` steps from `s` and reaches `t`. -/
def Reaches (n : Nat) (s t : State) : Prop := Host.Core.run Sys2Proof.core n s = .next t

/-- No command and no placed word waits. -/
def NothingPending (s : State) : Prop := s.datum = none ∧ s.cmd = 0

/-! ### Instruction sets -/

/-- The micro-operations of the serializer (R58). -/
def txMicroOps : List Instr := [.txIdle, .txCarrier, .txHdr, .txBit, .txGap, .txFoot, .txPerform]

/-- The micro-operations of the deserializer (R58). -/
def rxMicroOps : List Instr := [.rxIdle, .rxHdr, .rxBit, .rxChk, .rxDone]

/-! ### Observations on one half -/

/-- The registers of the serializer and what its collaborator holds. -/
def SameTx (s t : State) : Prop :=
  t.txf = s.txf ∧ t.txfWritten = s.txfWritten ∧ t.txPhase = s.txPhase ∧ t.txRep = s.txRep ∧ t.txByte = s.txByte ∧
    t.txBit = s.txBit ∧ t.txOut = s.txOut

/-- The registers of the deserializer, its capture and what its consumer holds. -/
def SameRx (s t : State) : Prop :=
  t.rxf = s.rxf ∧ t.rxfWritten = s.rxfWritten ∧ t.rxPhase = s.rxPhase ∧ t.rxByte = s.rxByte ∧ t.rxBit = s.rxBit ∧
    t.rxCur = s.rxCur ∧ t.rxStatus = s.rxStatus ∧ t.rxErrpos = s.rxErrpos ∧ t.cap = s.cap ∧ t.handed = s.handed

/-- The input ports, the tolerance and the model's own placed word and counter. -/
def SamePorts (s t : State) : Prop :=
  t.tol = s.tol ∧ t.cmd = s.cmd ∧ t.txFrame = s.txFrame ∧ t.capPort = s.capPort ∧ t.datum = s.datum ∧ t.tick = s.tick

/-- The outcome of one step with every next state passed through a function; a stop stays as it is. -/
def mapNext (f : State → State) : Host.Outcome State Fault Refusal → Host.Outcome State Fault Refusal
  | .next s => .next (f s)
  | .fault r => .fault r
  | .refused r => .refused r

/-- How far the serializer is in its operation: a number that every micro-operation raises (R77). -/
def txRank (s : State) : Nat :=
  match s.txPhase with
  | .idle => 1000
  | .carrier => 0
  | .hdr => 1 + 200 * s.txRep.val
  | .bit => 2 + 200 * s.txRep.val + wireIndex s.txByte s.txBit
  | .gap => 200
  | .foot => 500
  | .perform => 501

/-- How far the deserializer is in its operation: a number that every micro-operation raises (R95). -/
def rxRank (s : State) : Nat :=
  match s.rxPhase with
  | .idle => 1000
  | .hdr => 0
  | .bit => 1 + 9 * s.rxByte.val + s.rxBit.val
  | .chk => 1 + 9 * s.rxByte.val + 8

end Sys2Proof.Machine
end

