-- ==== Sys2Proof/Certificates/Slice0/Obligations.lean ====
section
/-! DEFINITION. The statements about the block for the provers, one definition each; OBLIGATIONS.json lists them. Where a
statement rests on a choice of the model, its docstring names the log entry. -/

open Sys2Proof Sys2Proof.Machine

/-! ### Encoding -/

/-- R50, R52, R58: decoding the code word of any instruction that has one of its own gives the instruction back, with every
payload field of `FRAME18` at every value. -/
def Obligations.DecodeOfEncode : Prop := ∀ i : Instr, i.wellFormed = true → decode (encode i) = .ok i

/-- R50, R52, R58: a code word that decodes is the encoding of what it decodes to, so no bit of a word is dropped. -/
def Obligations.EncodeOfDecode : Prop := ∀ (w : CodeWord) (i : Instr), decode w = .ok i → encode i = w

/-- R25, R14, R15, R50, R52: words written out from the spec's tables decode to the instruction they stand for. -/
def Obligations.TableWordsDecode : Prop :=
  decode (.cmd 0b01) = .ok .txSend ∧ decode (.cmd 0b10) = .ok .rxDecode ∧
    decode (.txPhase 0b011) = .ok .txBit ∧ decode (.txPhase 0b110) = .ok .txPerform ∧
    decode (.txPhase 0b111) = .error .unusedTxPhase ∧
    decode (.rxPhase 0b10) = .ok .rxBit ∧ decode (.rxPhase 0b11) = .ok .rxChk ∧
    decode (.item 430 (some 1250)) = .ok .sym1 ∧ decode (.item 430 none) = .ok .symF ∧
    decode (.item 430 (some 800)) = .error .noSymbol ∧
    decode (.frame 0xCE000000000000005A30070820000126CB23) = .ok (.frame18 0x20 0x08 0x07 0x30 0x5A 0 0 0xCE) ∧
    decode (.frame 0xCE000000000000005A30070820000126CB22) = .error .fixedBytesWrong

/-- R6, R24, R30: bit `8i+j` of the 144-bit port is bit `j` of byte `i`, and the port and the frame carry the same
data. -/
def Obligations.PortBitsAreFrameBits : Prop :=
  (∀ (F : Frame) (i : Fin 18) (j : Fin 8), (frameInt F).getLsbD (8 * i.val + j.val) = F[i.val].getLsbD j.val) ∧
    (∀ w : BitVec 144, frameInt (frameOfPort w) = w) ∧ (∀ F : Frame, frameOfPort (frameInt F) = F)

/-- R57: a frame passes all seven comparisons exactly when its frame integer meets the mask and the match. -/
def Obligations.MaskIsSevenComparisons : Prop :=
  ∀ F : Frame,
    (frameInt F &&& 0x00FF0000FF0000000000000000FFFFFFFFFF) = 0x000000000000000000000000000126CB23 ↔
      F[0] = 0x23 ∧ F[1] = 0xCB ∧ F[2] = 0x26 ∧ F[3] = 0x01 ∧ F[4] = 0x00 ∧ F[13] = 0x00 ∧ F[16] = 0x00

/-! ### Reset and idling -/

/-- R26, R165: the values the spec gives for reset; neither frame buffer holds a value of the spec's, and the frame consumer
can read none. What the buffers' registers hold is a free value (log entries 6 and 7), and nothing is said of it. -/
def Obligations.ResetLeavesTheBlockIdle : Prop :=
  State.reset.txPhase = .idle ∧ State.reset.txRep = 0 ∧ State.reset.txByte = 0 ∧ State.reset.txBit = 0 ∧
    State.reset.txBusy = false ∧ State.reset.rxPhase = .idle ∧ State.reset.rxByte = 0 ∧ State.reset.rxBit = 0 ∧
    State.reset.rxCur = 0 ∧ State.reset.rxStatus = .none ∧ State.reset.rxErrpos = 0 ∧
    State.reset.rxFrameValid = false ∧ State.reset.train = [] ∧
    State.reset.txfWritten = false ∧ State.reset.rxfWritten = 0 ∧
    State.reset.rxFramePort = .error .rxFrameNotValid ∧
    (∀ i, State.reset.consumerRead i = .error .rxFrameNotValid)

/-- R58, R77, R95, R165: the idle phases execute nothing, and with no command, no placed word and both halves idle a step
changes nothing. -/
def Obligations.IdleExecutesNothing : Prop :=
  ∀ s : State, exec .txIdle s = .next s ∧ exec .rxIdle s = .next s ∧
    (NothingPending s → s.txPhase = .idle → s.rxPhase = .idle → step s = .next s)

/-- R166, R26: reset of a running block abandons both operations without a status, keeps the tolerance and empties the train
of an idle serializer. That the frames already handed over stay as they are is the model's choice (log entries 19 and 22,
unsafe), about which the spec says nothing. What the transmit collaborator then holds of an abandoned send is left free
(log entry 19). -/
def Obligations.ResetAbandonsOperations : Prop :=
  ∀ s : State,
    s.resetBlock.txPhase = .idle ∧ s.resetBlock.rxPhase = .idle ∧ s.resetBlock.txRep = 0 ∧ s.resetBlock.txByte = 0 ∧
      s.resetBlock.txBit = 0 ∧ s.resetBlock.rxByte = 0 ∧ s.resetBlock.rxBit = 0 ∧ s.resetBlock.rxCur = 0 ∧
      s.resetBlock.rxStatus = .none ∧ s.resetBlock.rxErrpos = 0 ∧ s.resetBlock.tol = s.tol ∧
      s.resetBlock.handed = s.handed ∧ (s.txPhase = .idle → s.resetBlock.train = []) ∧
      s.resetBlock.txfWritten = false ∧ s.resetBlock.rxfWritten = 0 ∧
      s.resetBlock.rxFramePort = .error .rxFrameNotValid ∧
      (∀ i, s.resetBlock.consumerRead i = .error .rxFrameNotValid)

/-! ### Fetching and stepping -/

/-- D1, R58: a step is the meaning of the instruction its word decodes to, with one free choice counted when both halves
are busy (log entry 2); a word that decodes to nothing is refused by name. -/
def Obligations.StepRunsTheDecodedInstruction : Prop :=
  ∀ (s : State) (i : Instr),
    (decode (nextWord s) = .ok i → s.txPhase = .idle ∨ s.rxPhase = .idle → step s = exec i s) ∧
      (decode (nextWord s) = .ok i → s.txPhase ≠ .idle → s.rxPhase ≠ .idle →
        step s = exec i { s with tick := s.tick + 1 }) ∧
      (∀ e, decode (nextWord s) = .error e → step s = .refused (.noSuchCode e))

/-- R25, R58: what a step runs when no placed word waits: a command on the port first, then the micro-operation the phase of
the one busy half selects. The command-first order is the model's (log entry 1). -/
def Obligations.PortAndPhasesSelectTheInstruction : Prop :=
  ∀ s : State, s.datum = none →
    (s.cmd ≠ 0 → fetch s = decode (.cmd s.cmd)) ∧
      (s.cmd = 0 → s.rxPhase = .idle →
        fetch s = .ok (match s.txPhase with
          | .idle => .cmdNone
          | .carrier => .txCarrier
          | .hdr => .txHdr
          | .bit => .txBit
          | .gap => .txGap
          | .foot => .txFoot
          | .perform => .txPerform)) ∧
      (s.cmd = 0 → s.txPhase = .idle →
        fetch s = .ok (match s.rxPhase with
          | .idle => .cmdNone
          | .hdr => .rxHdr
          | .bit => .rxBit
          | .chk => .rxChk))

/-- R10, R14, R15, R58: where both halves are busy a step runs the micro-operation that `TX_PHASE` selects or the one that
`RX_PHASE` selects; which of the two is free (log entry 2). -/
def Obligations.BusyHalvesInterleave : Prop :=
  ∀ s : State, NothingPending s → s.txPhase ≠ .idle → s.rxPhase ≠ .idle →
    fetch s = .ok (match s.txPhase with
      | .idle => .txIdle
      | .carrier => .txCarrier
      | .hdr => .txHdr
      | .bit => .txBit
      | .gap => .txGap
      | .foot => .txFoot
      | .perform => .txPerform) ∨
    fetch s = .ok (match s.rxPhase with
      | .idle => .rxIdle
      | .hdr => .rxHdr
      | .bit => .rxBit
      | .chk => .rxChk)

/-- Log entries 12, 14, 15: the word of an opcode-table number, placed, is what the next step runs. -/
def Obligations.PlacedTableWordRuns : Prop :=
  ∀ (s : State) (nbits w : Nat) (i : Instr), s.txPhase = .idle ∨ s.rxPhase = .idle →
    decodeTableWord nbits w = some i →
      step (s.withFetchWord nbits w) = exec i (s.withFetchWord nbits w)

/-! ### The command port -/

/-- R25: the whole table of the command port, and the refusal of a start to a half that is not idle. Besides R25's effects a
start empties the train (log entry 5, from R34), latches the capture (log entry 4, from R48) and uses up the command (log
entry 3): these three are the model's reading. -/
def Obligations.CommandPortTable : Prop :=
  decode (.cmd 0b00) = .ok .cmdNone ∧ decode (.cmd 0b01) = .ok .txSend ∧ decode (.cmd 0b10) = .ok .rxDecode ∧
    decode (.cmd 0b11) = .ok .cmdRefused ∧
    ∀ s : State,
      exec .cmdNone s = .next s ∧
      (s.txPhase = .idle →
        exec .txSend s = .next { s with
          txf := frameOfPort s.txFrame, txfWritten := true, txOut := [], cmd := 0,
          txPhase := .carrier, txRep := 0, txByte := 0, txBit := 0 }) ∧
      (s.txPhase ≠ .idle → exec .txSend s = .refused .txNotIdle) ∧
      (s.rxPhase = .idle →
        exec .rxDecode s = .next { s with
          cap := s.capPort, cmd := 0, rxStatus := .none, rxErrpos := 0,
          rxPhase := .hdr, rxByte := 0, rxBit := 0, rxCur := 0 }) ∧
      (s.rxPhase ≠ .idle → exec .rxDecode s = .refused .rxNotIdle) ∧
      exec .cmdRefused s = .refused .bothStarts

/-! ### Symbols and the frame format -/

/-- R50, R51: each symbol's nominal events, and nothing else, go to the transmit collaborator. That a symbol row has this
effect is the model's choice (log entries 10, 12). -/
def Obligations.SymbolsEmitNominalEvents : Prop :=
  ∀ s : State,
    exec .symH s = .next { s with txOut := s.txOut ++ [.event (.mark 3500), .event (.space 1700)], datum := none } ∧
    exec .sym0 s = .next { s with txOut := s.txOut ++ [.event (.mark 430), .event (.space 390)], datum := none } ∧
    exec .sym1 s = .next { s with txOut := s.txOut ++ [.event (.mark 430), .event (.space 1250)], datum := none } ∧
    exec .symG s = .next { s with txOut := s.txOut ++ [.event (.mark 430), .event (.space 17500)], datum := none } ∧
    exec .symF s = .next { s with txOut := s.txOut ++ [.event (.mark 430)], datum := none }

/-- R52, R24: a `FRAME18` word stands on `tx_frame`, each field at its bytes, the fixed bytes at theirs. That the row has
this effect is the model's choice (log entries 11, 12). -/
def Obligations.FrameWordStandsOnThePort : Prop :=
  ∀ (s : State) (p m t v f : Byte) (c : BitVec 24) (x : BitVec 16) (k : Byte),
    ∃ w, exec (.frame18 p m t v f c x k) s = .next { s with txFrame := w, datum := none } ∧
      frameOfPort w = #v[0x23, 0xCB, 0x26, 0x01, 0x00, p, m, t, v, f, c.extractLsb' 0 8, c.extractLsb' 8 8,
        c.extractLsb' 16 8, 0x00, x.extractLsb' 0 8, x.extractLsb' 8 8, 0x00, k]

/-! ### The serializer's micro-operations -/

/-- R71: the carrier is set to 38000 and the header comes next. -/
def Obligations.TxCarrierSetsTheCarrier : Prop :=
  ∀ s : State, exec .txCarrier s = .next { s with
    txOut := s.txOut ++ [.carrier 38000], txPhase := .hdr, txRep := 0, txByte := 0, txBit := 0 }

/-- R72: the header item is emitted and the first bit of the same repetition comes next. -/
def Obligations.TxHdrEmitsTheHeader : Prop :=
  ∀ s : State, exec .txHdr s = .next { s with
    txOut := s.txOut ++ [.event (.mark 3500), .event (.space 1700)], txPhase := .bit, txByte := 0, txBit := 0 }

/-- R54, R73: the item of the bit `TXF[i][j]` is emitted, and the four cases of the next position. -/
def Obligations.TxBitEmitsOneBit : Prop :=
  ∀ s : State,
    exec .txBit s = .next
      (let out := s.txOut ++ [.event (.mark 430),
        .event (.space (if s.txf[s.txByte.val].getLsbD s.txBit.val then 1250 else 390))]
      if s.txBit.val < 7 then { s with txOut := out, txPhase := .bit, txBit := s.txBit + 1 }
      else if s.txByte.val < 17 then { s with txOut := out, txPhase := .bit, txByte := s.txByte + 1, txBit := 0 }
      else if s.txRep = 0 then { s with txOut := out, txPhase := .gap, txByte := 0, txBit := 0 }
      else { s with txOut := out, txPhase := .foot, txByte := 0, txBit := 0 })

/-- R74: the gap item is emitted and the header of the second repetition comes next. -/
def Obligations.TxGapEmitsTheGap : Prop :=
  ∀ s : State, exec .txGap s = .next { s with
    txOut := s.txOut ++ [.event (.mark 430), .event (.space 17500)], txPhase := .hdr, txRep := 1, txByte := 0,
    txBit := 0 }

/-- R75: the lone closing mark is emitted and `Perform` comes next. -/
def Obligations.TxFootEmitsTheClosingMark : Prop :=
  ∀ s : State, exec .txFoot s = .next { s with
    txOut := s.txOut ++ [.event (.mark 430)], txPhase := .perform, txRep := 1, txByte := 0, txBit := 0 }

/-- R76: `Perform` is called and the serializer is idle. -/
def Obligations.TxPerformEndsTheSend : Prop :=
  ∀ s : State, ∃ t, exec .txPerform s = .next t ∧ t.txBusy = false ∧
    t = { s with txOut := s.txOut ++ [.perform], txPhase := .idle, txRep := 0, txByte := 0, txBit := 0 }

/-! ### Flags, codes and errors -/

/-- R16, R17, R141: the two derived flags, the code each outcome shows on `rx_status`, and the position it records. -/
def Obligations.StatusCodesAndFlags : Prop :=
  (∀ s : State, (s.txBusy = true ↔ s.txPhase ≠ .idle) ∧ (s.rxFrameValid = true ↔ s.rxStatus = .ok)) ∧
    RxStatus.code .none = 0 ∧ RxStatus.code .ok = 1 ∧
    RxStatus.code (errorStatus .headerMismatch) = 2 ∧ errorPos .headerMismatch = 0 ∧
    (∀ p, RxStatus.code (errorStatus (.bitTimingMismatch p)) = 3) ∧
    (∀ p, RxStatus.code (errorStatus (.fixedByteMismatch p)) = 4) ∧
    (∀ p < 256, (errorPos (.bitTimingMismatch p)).toNat = p ∧ (errorPos (.fixedByteMismatch p)).toNat = p)

/-- R146: what taking an error writes; nothing else changes, the flag `RX_FRAME_VALID` reads 0, and the block is idle with no
state to return to (R148). -/
def Obligations.RaisingWritesTheResult : Prop :=
  ∀ (s : State) (e : RxError),
    s.raiseRx e = { s with
      rxStatus := errorStatus e, rxErrpos := errorPos e, rxPhase := .idle, rxByte := 0, rxBit := 0, rxCur := 0 } ∧
    (s.raiseRx e).rxFrameValid = false

/-! ### The deserializer's micro-operations -/

/-- R37: the default tolerance test at 25 percent, as the table of its windows. -/
def Obligations.DefaultWindows : Prop :=
  ∀ d : Nat,
    (accepts (.percent 25) 3500 d = true ↔ 2625 ≤ d ∧ d ≤ 4375) ∧
    (accepts (.percent 25) 1700 d = true ↔ 1275 ≤ d ∧ d ≤ 2125) ∧
    (accepts (.percent 25) 430 d = true ↔ 322 ≤ d ∧ d ≤ 537) ∧
    (accepts (.percent 25) 1250 d = true ↔ 937 ≤ d ∧ d ≤ 1562) ∧
    (accepts (.percent 25) 390 d = true ↔ 292 ≤ d ∧ d ≤ 487)

/-- R36: a query is true, and consumes two events, exactly when both are there, are a mark and a space, and match. -/
def Obligations.QueryConsumesTwoOrNothing : Prop :=
  ∀ (s : State) (m sp : Nat),
    (∀ d0 d1, s.cap[s.rxCur]? = some (.mark d0) → s.cap[s.rxCur + 1]? = some (.space d1) →
      accepts s.tol m d0 = true → accepts s.tol sp d1 = true →
        s.expectItem m sp = some { s with rxCur := s.rxCur + 2 }) ∧
    ((¬ ∃ d0 d1, s.cap[s.rxCur]? = some (.mark d0) ∧ s.cap[s.rxCur + 1]? = some (.space d1) ∧
      accepts s.tol m d0 = true ∧ accepts s.tol sp d1 = true) → s.expectItem m sp = none)

/-- R142, R91: the header is consumed, or, where the next two events are not a mark that matches 3500 and a space that
matches 1700, the decode ends with `HEADER_MISMATCH` and position 0. -/
def Obligations.RxHdrFindsOrRaises : Prop :=
  ∀ s : State,
    (∀ d0 d1, s.cap[s.rxCur]? = some (.mark d0) → s.cap[s.rxCur + 1]? = some (.space d1) →
      accepts s.tol 3500 d0 = true → accepts s.tol 1700 d1 = true →
        exec .rxHdr s = .next { s with rxPhase := .bit, rxByte := 0, rxBit := 0, rxCur := s.rxCur + 2 }) ∧
    ((s.cap.length ≤ s.rxCur + 1 ∨ (∃ d, s.cap[s.rxCur]? = some (.space d)) ∨
      (∃ d, s.cap[s.rxCur]? = some (.mark d) ∧ accepts s.tol 3500 d = false) ∨
      (∃ d, s.cap[s.rxCur + 1]? = some (.mark d)) ∨
      (∃ d, s.cap[s.rxCur + 1]? = some (.space d) ∧ accepts s.tol 1700 d = false)) →
        exec .rxHdr s = .next { s with
          rxStatus := .headerMismatch, rxErrpos := 0, rxPhase := .idle, rxByte := 0, rxBit := 0, rxCur := 0 })

/-- R92, R97, R143: one bit is read, the one-space first, into bit `j` of byte `i`, or the decode ends with
`BIT_TIMING_MISMATCH` at `8i+j`; at bit 0 the byte is cleared first in every case. The last clause spells out what makes
both queries false. -/
def Obligations.RxBitReadsOrRaises : Prop :=
  ∀ s : State,
    let one := itemMatches s.tol s.cap s.rxCur 430 1250
    let zero := itemMatches s.tol s.cap s.rxCur 430 390
    let old : Byte := if s.rxBit.val = 0 then 0 else s.rxf[s.rxByte.val]
    let written := if s.rxBit.val = 0 then s.rxfWritten ||| (1#18 <<< s.rxByte.val) else s.rxfWritten
    let advanced (t : State) : State :=
      if s.rxBit.val < 7 then { t with rxPhase := .bit, rxBit := s.rxBit + 1, rxCur := s.rxCur + 2 }
      else { t with rxPhase := .chk, rxBit := 0, rxCur := s.rxCur + 2 }
    (one = true →
      exec .rxBit s = .next (advanced { s with
        rxf := s.rxf.set s.rxByte.val (old ||| (1#8 <<< s.rxBit.val)) s.rxByte.isLt, rxfWritten := written })) ∧
    (one = false → zero = true →
      exec .rxBit s = .next (advanced { s with
        rxf := s.rxf.set s.rxByte.val old s.rxByte.isLt, rxfWritten := written })) ∧
    (one = false → zero = false →
      exec .rxBit s = .next { s with
        rxf := s.rxf.set s.rxByte.val old s.rxByte.isLt, rxfWritten := written,
        rxStatus := .bitTimingMismatch, rxErrpos := BitVec.ofNat 8 (8 * s.rxByte.val + s.rxBit.val),
        rxPhase := .idle, rxByte := 0, rxBit := 0, rxCur := 0 }) ∧
    ((s.cap.length ≤ s.rxCur + 1 ∨ (∃ d, s.cap[s.rxCur]? = some (.space d)) ∨
      (∃ d, s.cap[s.rxCur]? = some (.mark d) ∧ accepts s.tol 430 d = false) ∨
      (∃ d, s.cap[s.rxCur + 1]? = some (.mark d)) ∨
      (∃ d, s.cap[s.rxCur + 1]? = some (.space d) ∧ accepts s.tol 1250 d = false ∧ accepts s.tol 390 d = false)) ↔
        one = false ∧ zero = false)

/-- R93, R144: a byte with an entry in `FIXED` is compared, any other is passed; after byte 17 the decode succeeds. -/
def Obligations.RxChkComparesFixedBytes : Prop :=
  ∀ s : State,
    (∀ v : Byte,
      (s.rxByte.val, v) ∈ [(0, 0x23#8), (1, 0xCB#8), (2, 0x26#8), (3, 0x01#8), (4, 0x00#8), (13, 0x00#8), (16, 0x00#8)] →
      s.rxf[s.rxByte.val] ≠ v →
      exec .rxChk s = .next { s with
        rxStatus := .fixedByteMismatch, rxErrpos := BitVec.ofNat 8 s.rxByte.val,
        rxPhase := .idle, rxByte := 0, rxBit := 0, rxCur := 0 }) ∧
    (s.rxByte.val < 17 →
      (fixedAt s.rxByte.val = none ∨ fixedAt s.rxByte.val = some s.rxf[s.rxByte.val]) →
      exec .rxChk s = .next { s with rxPhase := .bit, rxByte := s.rxByte + 1, rxBit := 0 }) ∧
    (s.rxByte.val = 17 → exec .rxChk s = exec .rxDone s)

/-- R19: the fixed-byte table, entry by entry. -/
def Obligations.FixedTableEntries : Prop :=
  (∀ i, (fixedAt i).isSome = true ↔ i ∈ [0, 1, 2, 3, 4, 13, 16]) ∧
    fixedAt 0 = some 0x23 ∧ fixedAt 1 = some 0xCB ∧ fixedAt 2 = some 0x26 ∧ fixedAt 3 = some 0x01 ∧
    fixedAt 4 = some 0x00 ∧ fixedAt 13 = some 0x00 ∧ fixedAt 16 = some 0x00

/-- R94: the decode succeeds: status, hand-over, idle position. -/
def Obligations.RxDoneHandsOver : Prop :=
  ∀ s : State,
    exec .rxDone s = .next { s with
      rxStatus := .ok, rxErrpos := 0, handed := s.handed ++ [s.rxf],
      rxPhase := .idle, rxByte := 0, rxBit := 0, rxCur := 0 }

/-- R12, R103, R174: the frame consumer's reads give the frame exactly while the status is `OK`, and fault otherwise. -/
def Obligations.ConsumerReadsOnlyAfterOk : Prop :=
  ∀ s : State,
    (s.rxStatus = .ok → s.rxFramePort = .ok (frameInt s.rxf) ∧ ∀ i : Fin 18, s.consumerRead i = .ok s.rxf[i.val]) ∧
    (s.rxStatus ≠ .ok →
      s.rxFramePort = .error .rxFrameNotValid ∧ ∀ i : Fin 18, s.consumerRead i = .error .rxFrameNotValid)

/-! ### Frames over all instructions -/

/-- R10: no micro-operation of one half touches the other half, a port, the tolerance or the model's own fields. -/
def Obligations.HalvesShareNoState : Prop :=
  ∀ (i : Instr) (s t : State), exec i s = .next t →
    (i ∈ txMicroOps → SameRx s t ∧ SamePorts s t) ∧ (i ∈ rxMicroOps → SameTx s t ∧ SamePorts s t)

/-- R10: micro-operations of the two halves commute: whichever goes first, both answer a next state, and the same one in the
end, so their order cannot be observed. -/
def Obligations.HalvesCommute : Prop :=
  ∀ (i j : Instr) (s : State), i ∈ txMicroOps → j ∈ rxMicroOps →
    ∃ t u v, exec i s = .next t ∧ exec j s = .next u ∧ exec j t = .next v ∧ exec i u = .next v

/-- R11: only `TX.SEND` writes `TXF`, all 18 bytes at once, from the port. -/
def Obligations.OnlySendWritesTxf : Prop :=
  ∀ (i : Instr) (s t : State), exec i s = .next t →
    if i = .txSend then t.txf = frameOfPort s.txFrame ∧ t.txfWritten = true
    else t.txf = s.txf ∧ t.txfWritten = s.txfWritten

/-- R12: only `RX.BIT` writes `RXF`, and only the byte it is assembling. -/
def Obligations.OnlyRxBitWritesRxf : Prop :=
  ∀ (i : Instr) (s t : State), exec i s = .next t →
    (i ≠ .rxBit → t.rxf = s.rxf ∧ t.rxfWritten = s.rxfWritten) ∧
      (i = .rxBit → ∀ m : Fin 18, m ≠ s.rxByte →
        t.rxf[m.val] = s.rxf[m.val] ∧ t.rxfWritten.getLsbD m.val = s.rxfWritten.getLsbD m.val)

/-- R18, R20, R23, R35, R48: no instruction changes the tolerance or the capture port, and the capture of an operation
changes only at the start of a decode. -/
def Obligations.InputsStayFixed : Prop :=
  ∀ (i : Instr) (s t : State), exec i s = .next t →
    t.tol = s.tol ∧ t.capPort = s.capPort ∧ (i ≠ .rxDecode → t.cap = s.cap) ∧
      (i = .rxDecode → t.cap = s.capPort)

/-- R21, R33, R45: the train only grows, at its end; no instruction of the deserializer touches it. That a send starts with
an empty train is R34 and R167, and that the start itself empties it is the model's reading of them (log entry 5). -/
def Obligations.TrainIsAppendOnly : Prop :=
  ∀ (i : Instr) (s t : State), exec i s = .next t →
    (i ≠ .txSend → ∃ more, t.txOut = s.txOut ++ more ∧ more.length ≤ 2) ∧ (i = .txSend → t.train = []) ∧
      (i ∈ rxMicroOps ∨ i = .rxDecode ∨ i = .cmdNone → t.txOut = s.txOut)

/-- R40, R106: a frame reaches the consumer only in the success action, which leaves the status `OK` and hands over the
frame buffer as it stands. -/
def Obligations.OnlySuccessHandsOver : Prop :=
  ∀ (i : Instr) (s t : State), exec i s = .next t →
    t.handed = s.handed ∨
      ((i = .rxChk ∨ i = .rxDone) ∧ t.handed = s.handed ++ [t.rxf] ∧ t.rxStatus = .ok ∧ t.rxPhase = .idle)

/-- R106, R146: a micro-operation that ends the decode without success changes nothing but the result registers, the
position, and the byte being assembled. -/
def Obligations.FailureHasNoOutwardEffect : Prop :=
  ∀ (i : Instr) (s t : State), i ∈ rxMicroOps → s.rxPhase ≠ .idle → exec i s = .next t → t.rxPhase = .idle →
    t.rxStatus ≠ .ok →
      SameTx s t ∧ SamePorts s t ∧ t.handed = s.handed ∧ t.cap = s.cap ∧ t.rxByte = 0 ∧ t.rxBit = 0 ∧ t.rxCur = 0 ∧
        t.rxFrameValid = false ∧ (∀ m : Fin 18, m ≠ s.rxByte → t.rxf[m.val] = s.rxf[m.val])

/-- R16, R22: no instruction reads the result registers. With any other pair in them it does the same: it stops the same
way, or it writes the very same pair and the next states are equal, or it writes neither register and the next states
differ by the pair they carry on. -/
def Obligations.NoInstructionReadsTheResult : Prop :=
  ∀ (i : Instr) (s : State) (st : RxStatus) (pos : Byte),
    exec i (s.setRxResult st pos) = exec i s ∨
      (exec i (s.setRxResult st pos) = mapNext (State.setRxResult st pos) (exec i s) ∧
        ∀ t, exec i s = .next t → t.rxStatus = s.rxStatus ∧ t.rxErrpos = s.rxErrpos)

/-- R48: while an operation runs, a change of `tx_frame` or of the capture port has no effect on it. -/
def Obligations.RunningOperationsIgnoreThePorts : Prop :=
  ∀ (i : Instr) (s : State) (w : BitVec 144) (cap' : List Event), i ∈ txMicroOps ∨ i ∈ rxMicroOps →
    exec i { s with txFrame := w, capPort := cap' } =
      mapNext (fun t => { t with txFrame := w, capPort := cap' }) (exec i s)

/-- R78, R145: the serializer starts a send from idle without fail, no micro-operation of it ever fails, and neither writes
a result register. -/
def Obligations.SerializerNeverFails : Prop :=
  ∀ s : State,
    (s.txPhase = .idle →
      ∃ t, exec .txSend s = .next t ∧ t.rxStatus = s.rxStatus ∧ t.rxErrpos = s.rxErrpos) ∧
    (∀ i ∈ txMicroOps, ∃ t, exec i s = .next t ∧ t.rxStatus = s.rxStatus ∧ t.rxErrpos = s.rxErrpos)

/-- R77, R95: every micro-operation of a busy half moves it strictly forward, and a half can move forward only so far, so
every operation ends. -/
def Obligations.OperationsMoveForward : Prop :=
  ∀ s : State,
    txRank s ≤ 1000 ∧ rxRank s ≤ 1000 ∧
    (∀ t, s.datum = none → s.cmd = 0 → s.rxPhase = .idle → s.txPhase ≠ .idle → step s = .next t →
      txRank s < txRank t) ∧
    (∀ t, s.datum = none → s.cmd = 0 → s.txPhase = .idle → s.rxPhase ≠ .idle → step s = .next t →
      rxRank s < rxRank t)

/-! ### Invariants -/

/-- The invariant holds right after reset. -/
def Obligations.InvariantAtReset : Prop := Inv State.reset

/-- R39, R45, R77, R95, R103, R141: every step keeps the invariant, from every state that has it, whatever the ports
hold. -/
def Obligations.StepKeepsTheInvariant : Prop := ∀ s t : State, Inv s → step s = .next t → Inv t

/-- That no step faults, and that without a command or a placed word every step answers a next state, in every state, is the
model's choice (log entries 6 and 7, DESIGN CHOICE, unsafe): R26 and U3 ask a model to fault on a read of a frame register
before a write, and the model reads a free value there instead. That a decode error is no fault is R149. The last clause is
what R26 says, that no frame register is read before it is written: under the invariant `TX.BIT` runs only after a send
has written `TXF`, `RX.CHK` only on a byte of `RXF` that `RX.BIT` has begun, and the hand-over only when all 18 are. It
speaks of the model's own records `txfWritten` and `rxfWritten` (log entries 6 and 7). -/
def Obligations.RunsNeverFault : Prop :=
  ∀ s : State,
    (∀ f, step s ≠ .fault f) ∧ (NothingPending s → ∃ t, step s = .next t) ∧
    (Inv s →
      (s.txPhase = .bit → s.txfWritten = true) ∧
      (s.rxPhase = .chk →
        s.rxfWritten.getLsbD s.rxByte.val = true ∧ (s.rxByte.val = 17 → s.rxfWritten = BitVec.allOnes 18)))

/-- R57, R103: under the invariant, whatever the consumer can read on `rx_frame` passes the mask and the match, and is the
frame last handed over. -/
def Obligations.ReadableFrameIsValid : Prop :=
  ∀ (s : State) (w : BitVec 144), Inv s → s.rxFramePort = .ok w →
    frameMatches w = true ∧ s.handed.getLast? = some (frameOfPort w)

/-! ### The two descriptions agree -/

/-- R81 (the spec's own inference, "[derived: from rules R70 to R77]"), R70, R80: from the start position, with the
deserializer idle and no command waiting, 294 micro-operations later the transmit collaborator has got the carrier once,
exactly the events of `TxTrain(TXF)`, and `Perform` once, and nothing else has changed, whatever the frame. -/
def Obligations.SendAgreesWithTxTrain : Prop :=
  ∀ s : State, NothingPending s → s.rxPhase = .idle → s.txPhase = .carrier → s.txOut = [] →
    Reaches 294 s { s with
      txPhase := .idle, txRep := 0, txByte := 0, txBit := 0,
      txOut := [.carrier 38000] ++ (txTrain s.txf).map .event ++ [.perform] }

/-- R109 (the spec's own inference, "[derived: from rules R90 to R95]"), R95, R101: from the start position, with the
serializer idle and no command waiting, the decode ends within 163 micro-operations, after exactly 163 on success, with the
result of `RxDecode(CAP)`, whatever the other registers held before. -/
def Obligations.DecodeAgreesWithRxDecode : Prop :=
  ∀ s : State, NothingPending s → s.txPhase = .idle → s.rxPhase = .hdr → s.rxByte = 0 → s.rxBit = 0 → s.rxCur = 0 →
    ∃ n t, n ≤ 163 ∧ Reaches n s t ∧ t.rxPhase = .idle ∧ t.rxByte = 0 ∧ t.rxBit = 0 ∧ t.rxCur = 0 ∧
      SameTx s t ∧ SamePorts s t ∧ t.cap = s.cap ∧ (∀ m u, m < n → Reaches m s u → u.rxPhase ≠ .idle) ∧
      match rxDecode s.tol s.cap with
      | .ok R => n = 163 ∧ t.rxStatus = .ok ∧ t.rxErrpos = 0 ∧ t.rxf = R ∧ t.handed = s.handed ++ [R]
      | .err e => t.rxStatus = errorStatus e ∧ t.rxErrpos = errorPos e ∧ t.handed = s.handed

/-! ### The functions -/

/-- R79 (the spec's own inference, "[derived: from rule R70]"): the facts about every train, and that two different frames
give two different trains. -/
def Obligations.TrainFacts : Prop :=
  (∀ F : Frame,
    (txTrain F).length = 583 ∧
    (txTrain F).countP (fun e => e.kindBit == 1) = 292 ∧ (txTrain F).countP (fun e => e.kindBit == 0) = 291 ∧
    (txTrain F)[0]? = some (.mark 3500) ∧ (txTrain F)[1]? = some (.space 1700) ∧
    (∀ k < 144, (txTrain F)[2 + 2 * k]? = some (.mark 430) ∧
      (txTrain F)[3 + 2 * k]? = some (.space (if (frameInt F).getLsbD k then 1250 else 390)) ∧
      (txTrain F)[294 + 2 * k]? = some (.mark 430) ∧
      (txTrain F)[295 + 2 * k]? = some (.space (if (frameInt F).getLsbD k then 1250 else 390))) ∧
    (txTrain F)[290]? = some (.mark 430) ∧ (txTrain F)[291]? = some (.space 17500) ∧
    (txTrain F)[292]? = some (.mark 3500) ∧ (txTrain F)[293]? = some (.space 1700) ∧
    (txTrain F)[582]? = some (.mark 430) ∧
    ((txTrain F).drop 292).take 290 = (txTrain F).take 290 ∧
    (∀ n e, (txTrain F)[n]? = some e → e.kindBit = if n % 2 = 0 then 1 else 0) ∧
    (∀ e ∈ txTrain F, e.dur ∈ [3500, 1700, 430, 1250, 390, 17500])) ∧
  (∀ F G : Frame, txTrain F = txTrain G → F = G)

/-- R64: the pseudo-operations `TRAIN` and `REP` expand to the events of `TxTrain` and of one repetition. -/
def Obligations.PseudoOperationsExpand : Prop :=
  ∀ F : Frame, eventsOf (trainSymbols F) = txTrain F ∧ eventsOf (repSymbols F) = repetition F ∧
    (eventsOf (repSymbols F)).length = 290

/-- R177: the time a train takes to play. -/
def Obligations.PlayTimeOfTrain : Prop := ∀ F : Frame, playTime (txTrain F) = 264920 + 1720 * oneBits F

/-- R38, R171: the default tolerance has the three named properties up to 52 percent, loses `Match.disj` at 53 and
`Match.sep` from 69 on. -/
def Obligations.DefaultToleranceProperties : Prop :=
  (∀ p ≤ 52, MatchRefl (.percent p) ∧ MatchSep (.percent p) ∧ MatchDisj (.percent p)) ∧
    ¬ MatchDisj (.percent 53) ∧ (∀ p, 53 ≤ p → p ≤ 68 → MatchSep (.percent p)) ∧
    (∀ p, 69 ≤ p → ¬ MatchSep (.percent p))

/-- R97, R38: the one-space is tried first and the zero-space second, so a space that passes both tests reads as a 1; under
`Match.disj` no space passes both. -/
def Obligations.OneSpaceIsTriedFirst : Prop :=
  ∀ (t : Tolerance) (cap : List Event) (c : Nat),
    (itemMatches t cap c 430 1250 = true → readBit t cap c = some true) ∧
    (itemMatches t cap c 430 1250 = false → itemMatches t cap c 430 390 = true → readBit t cap c = some false) ∧
    (itemMatches t cap c 430 1250 = false → itemMatches t cap c 430 390 = false → readBit t cap c = none) ∧
    (MatchDisj t → ¬ (itemMatches t cap c 430 1250 = true ∧ itemMatches t cap c 430 390 = true))

/-- R90, R142, R143, R144, R147: which result a capture gives: the first failure in wire order, or the bytes it carries. -/
def Obligations.DecodeReportsTheFirstFailure : Prop :=
  ∀ (t : Tolerance) (cap : List Event),
    (rxDecode t cap = .err .headerMismatch ↔ ¬ HeaderRight t cap) ∧
    (∀ k, rxDecode t cap = .err (.bitTimingMismatch k) ↔
      k < 144 ∧ HeaderRight t cap ∧ BitsRight t cap k ∧ readBit t cap (2 + 2 * k) = none ∧
        ChecksRight t cap (k / 8)) ∧
    (∀ i, rxDecode t cap = .err (.fixedByteMismatch i) ↔
      i < 18 ∧ HeaderRight t cap ∧ BitsRight t cap (8 * i + 8) ∧ ChecksRight t cap i ∧
        byteAllowed i (capturedByte t cap i) = false) ∧
    (∀ R, rxDecode t cap = .ok R ↔
      HeaderRight t cap ∧ BitsRight t cap 144 ∧ ChecksRight t cap 18 ∧
        ∀ i : Fin 18, R[i.val] = capturedByte t cap i.val)

/-- R98 (with the spec's decision D7): a query beyond the end is false; a capture of fewer than two events is a header
mismatch; one that matches for `2 + 2k` events and then ends, or has one more event, is a bit-timing mismatch at `k`, unless
an earlier fixed byte was wrong; a lone mark after bit 143 is harmless. -/
def Obligations.ShortCapturesFail : Prop :=
  ∀ (t : Tolerance) (cap : List Event),
    (∀ c m sp, cap.length ≤ c + 1 → itemMatches t cap c m sp = false) ∧
    (cap.length < 2 → rxDecode t cap = .err .headerMismatch) ∧
    (∀ k < 144, cap.length = 2 + 2 * k ∨ cap.length = 3 + 2 * k → HeaderRight t cap → BitsRight t cap k →
      ChecksRight t cap (k / 8) → rxDecode t cap = .err (.bitTimingMismatch k)) ∧
    (∀ d, cap.length = 290 → rxDecode t (cap ++ [.mark d]) = rxDecode t cap)

/-- R107 (first three items), R80, R104: what the serializer sends the deserializer accepts exactly when the fixed bytes are
right, and reports the first wrong one otherwise, for the whole train, one repetition with anything behind it, and the
second repetition. With any value put into an unchecked byte, the checksum among them, the train still decodes to exactly
that frame. -/
def Obligations.LoopbackRoundTrip : Prop :=
  ∀ (t : Tolerance) (F : Frame), MatchRefl t → MatchSep t →
    (∀ cap, cap = txTrain F ∨ cap = (txTrain F).drop 292 ∨ (∃ T, cap = repetition F ++ T) →
      (FixedBytesRight F → rxDecode t cap = .ok F) ∧
      (∀ i : Fin 18, byteAllowed i.val F[i.val] = false →
        (∀ m : Fin 18, m.val < i.val → byteAllowed m.val F[m.val] = true) →
          rxDecode t cap = .err (.fixedByteMismatch i.val))) ∧
    (∀ (i : Fin 18) (v : Byte), FixedBytesRight F → i.val ∈ [5, 6, 7, 8, 9, 10, 11, 12, 14, 15, 17] →
      rxDecode t (txTrain (F.set i.val v i.isLt)) = .ok (F.set i.val v i.isLt))

/-- R99, R107 (last item): the result depends only on the first 290 events, and a failure only on the events up to the
failing item. -/
def Obligations.DecodeLooksNoFurther : Prop :=
  ∀ (t : Tolerance) (cap cap' : List Event),
    (cap'.take 290 = cap.take 290 → rxDecode t cap' = rxDecode t cap) ∧
    (∀ k, rxDecode t cap = .err (.bitTimingMismatch k) → cap'.take (4 + 2 * k) = cap.take (4 + 2 * k) →
      rxDecode t cap' = .err (.bitTimingMismatch k)) ∧
    (∀ i, rxDecode t cap = .err (.fixedByteMismatch i) → cap'.take (18 + 16 * i) = cap.take (18 + 16 * i) →
      rxDecode t cap' = .err (.fixedByteMismatch i))

/-- R100: whatever bytes 5 to 12, 14, 15 and 17 of a capture are, it is accepted when its header and its 144 bits are
recognised and its seven fixed bytes are right, and every byte is handed on as it stands. No frame that violates the
constant-byte invariant is ever accepted. -/
def Obligations.PayloadIsNeverInspected : Prop :=
  ∀ (t : Tolerance) (cap : List Event),
    (HeaderRight t cap → BitsRight t cap 144 →
      capturedByte t cap 0 = 0x23 → capturedByte t cap 1 = 0xCB → capturedByte t cap 2 = 0x26 →
      capturedByte t cap 3 = 0x01 → capturedByte t cap 4 = 0x00 → capturedByte t cap 13 = 0x00 →
      capturedByte t cap 16 = 0x00 →
        ∃ R, rxDecode t cap = .ok R ∧ ∀ i : Fin 18, R[i.val] = capturedByte t cap i.val) ∧
    (∀ R, rxDecode t cap = .ok R →
      R[0] = 0x23 ∧ R[1] = 0xCB ∧ R[2] = 0x26 ∧ R[3] = 0x01 ∧ R[4] = 0x00 ∧ R[13] = 0x00 ∧ R[16] = 0x00)

/-- R56: in a decode that succeeds, bit `j` of byte `i` is the bit recognised at wire position `8i+j`, none inverted, with
nothing between the bytes. -/
def Obligations.BytesAreAssembledBitByBit : Prop :=
  ∀ (t : Tolerance) (cap : List Event) (R : Frame), rxDecode t cap = .ok R →
    ∀ (i : Fin 18) (j : Fin 8),
      readBit t cap (2 + 2 * (8 * i.val + j.val)) = some (R[i.val].getLsbD j.val) ∧
        R[i.val] = capturedByte t cap i.val
end

