-- ==== Sys2Proof/Laws/State.lean ====
section
/-! SUPPORT. One lemma per field and single update of Machine/Ops.lean: which field an update writes, and that it leaves
every other field alone. -/

namespace Sys2Proof.Machine

variable (s : State)

/-! ### strobe -/

@[simp] theorem strobe_txf (x : TxStrobe) : (s.strobe x).txf = s.txf := rfl
@[simp] theorem strobe_txfWritten (x : TxStrobe) : (s.strobe x).txfWritten = s.txfWritten := rfl
@[simp] theorem strobe_txPhase (x : TxStrobe) : (s.strobe x).txPhase = s.txPhase := rfl
@[simp] theorem strobe_txRep (x : TxStrobe) : (s.strobe x).txRep = s.txRep := rfl
@[simp] theorem strobe_txByte (x : TxStrobe) : (s.strobe x).txByte = s.txByte := rfl
@[simp] theorem strobe_txBit (x : TxStrobe) : (s.strobe x).txBit = s.txBit := rfl
@[simp] theorem strobe_rxf (x : TxStrobe) : (s.strobe x).rxf = s.rxf := rfl
@[simp] theorem strobe_rxfWritten (x : TxStrobe) : (s.strobe x).rxfWritten = s.rxfWritten := rfl
@[simp] theorem strobe_rxPhase (x : TxStrobe) : (s.strobe x).rxPhase = s.rxPhase := rfl
@[simp] theorem strobe_rxByte (x : TxStrobe) : (s.strobe x).rxByte = s.rxByte := rfl
@[simp] theorem strobe_rxBit (x : TxStrobe) : (s.strobe x).rxBit = s.rxBit := rfl
@[simp] theorem strobe_rxCur (x : TxStrobe) : (s.strobe x).rxCur = s.rxCur := rfl
@[simp] theorem strobe_rxStatus (x : TxStrobe) : (s.strobe x).rxStatus = s.rxStatus := rfl
@[simp] theorem strobe_rxErrpos (x : TxStrobe) : (s.strobe x).rxErrpos = s.rxErrpos := rfl
@[simp] theorem strobe_tol (x : TxStrobe) : (s.strobe x).tol = s.tol := rfl
@[simp] theorem strobe_cmd (x : TxStrobe) : (s.strobe x).cmd = s.cmd := rfl
@[simp] theorem strobe_txFrame (x : TxStrobe) : (s.strobe x).txFrame = s.txFrame := rfl
@[simp] theorem strobe_capPort (x : TxStrobe) : (s.strobe x).capPort = s.capPort := rfl
@[simp] theorem strobe_cap (x : TxStrobe) : (s.strobe x).cap = s.cap := rfl
@[simp] theorem strobe_txOut (x : TxStrobe) : (s.strobe x).txOut = s.txOut ++ [x] := rfl
@[simp] theorem strobe_handed (x : TxStrobe) : (s.strobe x).handed = s.handed := rfl
@[simp] theorem strobe_datum (x : TxStrobe) : (s.strobe x).datum = s.datum := rfl
@[simp] theorem strobe_tick (x : TxStrobe) : (s.strobe x).tick = s.tick := rfl

/-! ### setTxPc -/

@[simp] theorem setTxPc_txf (ph : TxPhase) (r : Fin 2) (i : Fin 18) (j : Fin 8) : (s.setTxPc ph r i j).txf = s.txf := rfl
@[simp] theorem setTxPc_txfWritten (ph : TxPhase) (r : Fin 2) (i : Fin 18) (j : Fin 8) : (s.setTxPc ph r i j).txfWritten = s.txfWritten := rfl
@[simp] theorem setTxPc_txPhase (ph : TxPhase) (r : Fin 2) (i : Fin 18) (j : Fin 8) : (s.setTxPc ph r i j).txPhase = ph := rfl
@[simp] theorem setTxPc_txRep (ph : TxPhase) (r : Fin 2) (i : Fin 18) (j : Fin 8) : (s.setTxPc ph r i j).txRep = r := rfl
@[simp] theorem setTxPc_txByte (ph : TxPhase) (r : Fin 2) (i : Fin 18) (j : Fin 8) : (s.setTxPc ph r i j).txByte = i := rfl
@[simp] theorem setTxPc_txBit (ph : TxPhase) (r : Fin 2) (i : Fin 18) (j : Fin 8) : (s.setTxPc ph r i j).txBit = j := rfl
@[simp] theorem setTxPc_rxf (ph : TxPhase) (r : Fin 2) (i : Fin 18) (j : Fin 8) : (s.setTxPc ph r i j).rxf = s.rxf := rfl
@[simp] theorem setTxPc_rxfWritten (ph : TxPhase) (r : Fin 2) (i : Fin 18) (j : Fin 8) : (s.setTxPc ph r i j).rxfWritten = s.rxfWritten := rfl
@[simp] theorem setTxPc_rxPhase (ph : TxPhase) (r : Fin 2) (i : Fin 18) (j : Fin 8) : (s.setTxPc ph r i j).rxPhase = s.rxPhase := rfl
@[simp] theorem setTxPc_rxByte (ph : TxPhase) (r : Fin 2) (i : Fin 18) (j : Fin 8) : (s.setTxPc ph r i j).rxByte = s.rxByte := rfl
@[simp] theorem setTxPc_rxBit (ph : TxPhase) (r : Fin 2) (i : Fin 18) (j : Fin 8) : (s.setTxPc ph r i j).rxBit = s.rxBit := rfl
@[simp] theorem setTxPc_rxCur (ph : TxPhase) (r : Fin 2) (i : Fin 18) (j : Fin 8) : (s.setTxPc ph r i j).rxCur = s.rxCur := rfl
@[simp] theorem setTxPc_rxStatus (ph : TxPhase) (r : Fin 2) (i : Fin 18) (j : Fin 8) : (s.setTxPc ph r i j).rxStatus = s.rxStatus := rfl
@[simp] theorem setTxPc_rxErrpos (ph : TxPhase) (r : Fin 2) (i : Fin 18) (j : Fin 8) : (s.setTxPc ph r i j).rxErrpos = s.rxErrpos := rfl
@[simp] theorem setTxPc_tol (ph : TxPhase) (r : Fin 2) (i : Fin 18) (j : Fin 8) : (s.setTxPc ph r i j).tol = s.tol := rfl
@[simp] theorem setTxPc_cmd (ph : TxPhase) (r : Fin 2) (i : Fin 18) (j : Fin 8) : (s.setTxPc ph r i j).cmd = s.cmd := rfl
@[simp] theorem setTxPc_txFrame (ph : TxPhase) (r : Fin 2) (i : Fin 18) (j : Fin 8) : (s.setTxPc ph r i j).txFrame = s.txFrame := rfl
@[simp] theorem setTxPc_capPort (ph : TxPhase) (r : Fin 2) (i : Fin 18) (j : Fin 8) : (s.setTxPc ph r i j).capPort = s.capPort := rfl
@[simp] theorem setTxPc_cap (ph : TxPhase) (r : Fin 2) (i : Fin 18) (j : Fin 8) : (s.setTxPc ph r i j).cap = s.cap := rfl
@[simp] theorem setTxPc_txOut (ph : TxPhase) (r : Fin 2) (i : Fin 18) (j : Fin 8) : (s.setTxPc ph r i j).txOut = s.txOut := rfl
@[simp] theorem setTxPc_handed (ph : TxPhase) (r : Fin 2) (i : Fin 18) (j : Fin 8) : (s.setTxPc ph r i j).handed = s.handed := rfl
@[simp] theorem setTxPc_datum (ph : TxPhase) (r : Fin 2) (i : Fin 18) (j : Fin 8) : (s.setTxPc ph r i j).datum = s.datum := rfl
@[simp] theorem setTxPc_tick (ph : TxPhase) (r : Fin 2) (i : Fin 18) (j : Fin 8) : (s.setTxPc ph r i j).tick = s.tick := rfl

/-! ### setRxPc -/

@[simp] theorem setRxPc_txf (ph : RxPhase) (i : Fin 18) (j : Fin 8) (c : Nat) : (s.setRxPc ph i j c).txf = s.txf := rfl
@[simp] theorem setRxPc_txfWritten (ph : RxPhase) (i : Fin 18) (j : Fin 8) (c : Nat) : (s.setRxPc ph i j c).txfWritten = s.txfWritten := rfl
@[simp] theorem setRxPc_txPhase (ph : RxPhase) (i : Fin 18) (j : Fin 8) (c : Nat) : (s.setRxPc ph i j c).txPhase = s.txPhase := rfl
@[simp] theorem setRxPc_txRep (ph : RxPhase) (i : Fin 18) (j : Fin 8) (c : Nat) : (s.setRxPc ph i j c).txRep = s.txRep := rfl
@[simp] theorem setRxPc_txByte (ph : RxPhase) (i : Fin 18) (j : Fin 8) (c : Nat) : (s.setRxPc ph i j c).txByte = s.txByte := rfl
@[simp] theorem setRxPc_txBit (ph : RxPhase) (i : Fin 18) (j : Fin 8) (c : Nat) : (s.setRxPc ph i j c).txBit = s.txBit := rfl
@[simp] theorem setRxPc_rxf (ph : RxPhase) (i : Fin 18) (j : Fin 8) (c : Nat) : (s.setRxPc ph i j c).rxf = s.rxf := rfl
@[simp] theorem setRxPc_rxfWritten (ph : RxPhase) (i : Fin 18) (j : Fin 8) (c : Nat) : (s.setRxPc ph i j c).rxfWritten = s.rxfWritten := rfl
@[simp] theorem setRxPc_rxPhase (ph : RxPhase) (i : Fin 18) (j : Fin 8) (c : Nat) : (s.setRxPc ph i j c).rxPhase = ph := rfl
@[simp] theorem setRxPc_rxByte (ph : RxPhase) (i : Fin 18) (j : Fin 8) (c : Nat) : (s.setRxPc ph i j c).rxByte = i := rfl
@[simp] theorem setRxPc_rxBit (ph : RxPhase) (i : Fin 18) (j : Fin 8) (c : Nat) : (s.setRxPc ph i j c).rxBit = j := rfl
@[simp] theorem setRxPc_rxCur (ph : RxPhase) (i : Fin 18) (j : Fin 8) (c : Nat) : (s.setRxPc ph i j c).rxCur = c := rfl
@[simp] theorem setRxPc_rxStatus (ph : RxPhase) (i : Fin 18) (j : Fin 8) (c : Nat) : (s.setRxPc ph i j c).rxStatus = s.rxStatus := rfl
@[simp] theorem setRxPc_rxErrpos (ph : RxPhase) (i : Fin 18) (j : Fin 8) (c : Nat) : (s.setRxPc ph i j c).rxErrpos = s.rxErrpos := rfl
@[simp] theorem setRxPc_tol (ph : RxPhase) (i : Fin 18) (j : Fin 8) (c : Nat) : (s.setRxPc ph i j c).tol = s.tol := rfl
@[simp] theorem setRxPc_cmd (ph : RxPhase) (i : Fin 18) (j : Fin 8) (c : Nat) : (s.setRxPc ph i j c).cmd = s.cmd := rfl
@[simp] theorem setRxPc_txFrame (ph : RxPhase) (i : Fin 18) (j : Fin 8) (c : Nat) : (s.setRxPc ph i j c).txFrame = s.txFrame := rfl
@[simp] theorem setRxPc_capPort (ph : RxPhase) (i : Fin 18) (j : Fin 8) (c : Nat) : (s.setRxPc ph i j c).capPort = s.capPort := rfl
@[simp] theorem setRxPc_cap (ph : RxPhase) (i : Fin 18) (j : Fin 8) (c : Nat) : (s.setRxPc ph i j c).cap = s.cap := rfl
@[simp] theorem setRxPc_txOut (ph : RxPhase) (i : Fin 18) (j : Fin 8) (c : Nat) : (s.setRxPc ph i j c).txOut = s.txOut := rfl
@[simp] theorem setRxPc_handed (ph : RxPhase) (i : Fin 18) (j : Fin 8) (c : Nat) : (s.setRxPc ph i j c).handed = s.handed := rfl
@[simp] theorem setRxPc_datum (ph : RxPhase) (i : Fin 18) (j : Fin 8) (c : Nat) : (s.setRxPc ph i j c).datum = s.datum := rfl
@[simp] theorem setRxPc_tick (ph : RxPhase) (i : Fin 18) (j : Fin 8) (c : Nat) : (s.setRxPc ph i j c).tick = s.tick := rfl

/-! ### setRxCur -/

@[simp] theorem setRxCur_txf (c : Nat) : (s.setRxCur c).txf = s.txf := rfl
@[simp] theorem setRxCur_txfWritten (c : Nat) : (s.setRxCur c).txfWritten = s.txfWritten := rfl
@[simp] theorem setRxCur_txPhase (c : Nat) : (s.setRxCur c).txPhase = s.txPhase := rfl
@[simp] theorem setRxCur_txRep (c : Nat) : (s.setRxCur c).txRep = s.txRep := rfl
@[simp] theorem setRxCur_txByte (c : Nat) : (s.setRxCur c).txByte = s.txByte := rfl
@[simp] theorem setRxCur_txBit (c : Nat) : (s.setRxCur c).txBit = s.txBit := rfl
@[simp] theorem setRxCur_rxf (c : Nat) : (s.setRxCur c).rxf = s.rxf := rfl
@[simp] theorem setRxCur_rxfWritten (c : Nat) : (s.setRxCur c).rxfWritten = s.rxfWritten := rfl
@[simp] theorem setRxCur_rxPhase (c : Nat) : (s.setRxCur c).rxPhase = s.rxPhase := rfl
@[simp] theorem setRxCur_rxByte (c : Nat) : (s.setRxCur c).rxByte = s.rxByte := rfl
@[simp] theorem setRxCur_rxBit (c : Nat) : (s.setRxCur c).rxBit = s.rxBit := rfl
@[simp] theorem setRxCur_rxCur (c : Nat) : (s.setRxCur c).rxCur = c := rfl
@[simp] theorem setRxCur_rxStatus (c : Nat) : (s.setRxCur c).rxStatus = s.rxStatus := rfl
@[simp] theorem setRxCur_rxErrpos (c : Nat) : (s.setRxCur c).rxErrpos = s.rxErrpos := rfl
@[simp] theorem setRxCur_tol (c : Nat) : (s.setRxCur c).tol = s.tol := rfl
@[simp] theorem setRxCur_cmd (c : Nat) : (s.setRxCur c).cmd = s.cmd := rfl
@[simp] theorem setRxCur_txFrame (c : Nat) : (s.setRxCur c).txFrame = s.txFrame := rfl
@[simp] theorem setRxCur_capPort (c : Nat) : (s.setRxCur c).capPort = s.capPort := rfl
@[simp] theorem setRxCur_cap (c : Nat) : (s.setRxCur c).cap = s.cap := rfl
@[simp] theorem setRxCur_txOut (c : Nat) : (s.setRxCur c).txOut = s.txOut := rfl
@[simp] theorem setRxCur_handed (c : Nat) : (s.setRxCur c).handed = s.handed := rfl
@[simp] theorem setRxCur_datum (c : Nat) : (s.setRxCur c).datum = s.datum := rfl
@[simp] theorem setRxCur_tick (c : Nat) : (s.setRxCur c).tick = s.tick := rfl

/-! ### setRxResult -/

@[simp] theorem setRxResult_txf (st : RxStatus) (pos : Byte) : (s.setRxResult st pos).txf = s.txf := rfl
@[simp] theorem setRxResult_txfWritten (st : RxStatus) (pos : Byte) : (s.setRxResult st pos).txfWritten = s.txfWritten := rfl
@[simp] theorem setRxResult_txPhase (st : RxStatus) (pos : Byte) : (s.setRxResult st pos).txPhase = s.txPhase := rfl
@[simp] theorem setRxResult_txRep (st : RxStatus) (pos : Byte) : (s.setRxResult st pos).txRep = s.txRep := rfl
@[simp] theorem setRxResult_txByte (st : RxStatus) (pos : Byte) : (s.setRxResult st pos).txByte = s.txByte := rfl
@[simp] theorem setRxResult_txBit (st : RxStatus) (pos : Byte) : (s.setRxResult st pos).txBit = s.txBit := rfl
@[simp] theorem setRxResult_rxf (st : RxStatus) (pos : Byte) : (s.setRxResult st pos).rxf = s.rxf := rfl
@[simp] theorem setRxResult_rxfWritten (st : RxStatus) (pos : Byte) : (s.setRxResult st pos).rxfWritten = s.rxfWritten := rfl
@[simp] theorem setRxResult_rxPhase (st : RxStatus) (pos : Byte) : (s.setRxResult st pos).rxPhase = s.rxPhase := rfl
@[simp] theorem setRxResult_rxByte (st : RxStatus) (pos : Byte) : (s.setRxResult st pos).rxByte = s.rxByte := rfl
@[simp] theorem setRxResult_rxBit (st : RxStatus) (pos : Byte) : (s.setRxResult st pos).rxBit = s.rxBit := rfl
@[simp] theorem setRxResult_rxCur (st : RxStatus) (pos : Byte) : (s.setRxResult st pos).rxCur = s.rxCur := rfl
@[simp] theorem setRxResult_rxStatus (st : RxStatus) (pos : Byte) : (s.setRxResult st pos).rxStatus = st := rfl
@[simp] theorem setRxResult_rxErrpos (st : RxStatus) (pos : Byte) : (s.setRxResult st pos).rxErrpos = pos := rfl
@[simp] theorem setRxResult_tol (st : RxStatus) (pos : Byte) : (s.setRxResult st pos).tol = s.tol := rfl
@[simp] theorem setRxResult_cmd (st : RxStatus) (pos : Byte) : (s.setRxResult st pos).cmd = s.cmd := rfl
@[simp] theorem setRxResult_txFrame (st : RxStatus) (pos : Byte) : (s.setRxResult st pos).txFrame = s.txFrame := rfl
@[simp] theorem setRxResult_capPort (st : RxStatus) (pos : Byte) : (s.setRxResult st pos).capPort = s.capPort := rfl
@[simp] theorem setRxResult_cap (st : RxStatus) (pos : Byte) : (s.setRxResult st pos).cap = s.cap := rfl
@[simp] theorem setRxResult_txOut (st : RxStatus) (pos : Byte) : (s.setRxResult st pos).txOut = s.txOut := rfl
@[simp] theorem setRxResult_handed (st : RxStatus) (pos : Byte) : (s.setRxResult st pos).handed = s.handed := rfl
@[simp] theorem setRxResult_datum (st : RxStatus) (pos : Byte) : (s.setRxResult st pos).datum = s.datum := rfl
@[simp] theorem setRxResult_tick (st : RxStatus) (pos : Byte) : (s.setRxResult st pos).tick = s.tick := rfl

/-! ### clearRxf -/

@[simp] theorem clearRxf_txf (i : Fin 18) : (s.clearRxf i).txf = s.txf := rfl
@[simp] theorem clearRxf_txfWritten (i : Fin 18) : (s.clearRxf i).txfWritten = s.txfWritten := rfl
@[simp] theorem clearRxf_txPhase (i : Fin 18) : (s.clearRxf i).txPhase = s.txPhase := rfl
@[simp] theorem clearRxf_txRep (i : Fin 18) : (s.clearRxf i).txRep = s.txRep := rfl
@[simp] theorem clearRxf_txByte (i : Fin 18) : (s.clearRxf i).txByte = s.txByte := rfl
@[simp] theorem clearRxf_txBit (i : Fin 18) : (s.clearRxf i).txBit = s.txBit := rfl
@[simp] theorem clearRxf_rxf (i : Fin 18) : (s.clearRxf i).rxf = s.rxf.set i.val 0 i.isLt := rfl
@[simp] theorem clearRxf_rxfWritten (i : Fin 18) : (s.clearRxf i).rxfWritten = s.rxfWritten ||| (1#18 <<< i.val) := rfl
@[simp] theorem clearRxf_rxPhase (i : Fin 18) : (s.clearRxf i).rxPhase = s.rxPhase := rfl
@[simp] theorem clearRxf_rxByte (i : Fin 18) : (s.clearRxf i).rxByte = s.rxByte := rfl
@[simp] theorem clearRxf_rxBit (i : Fin 18) : (s.clearRxf i).rxBit = s.rxBit := rfl
@[simp] theorem clearRxf_rxCur (i : Fin 18) : (s.clearRxf i).rxCur = s.rxCur := rfl
@[simp] theorem clearRxf_rxStatus (i : Fin 18) : (s.clearRxf i).rxStatus = s.rxStatus := rfl
@[simp] theorem clearRxf_rxErrpos (i : Fin 18) : (s.clearRxf i).rxErrpos = s.rxErrpos := rfl
@[simp] theorem clearRxf_tol (i : Fin 18) : (s.clearRxf i).tol = s.tol := rfl
@[simp] theorem clearRxf_cmd (i : Fin 18) : (s.clearRxf i).cmd = s.cmd := rfl
@[simp] theorem clearRxf_txFrame (i : Fin 18) : (s.clearRxf i).txFrame = s.txFrame := rfl
@[simp] theorem clearRxf_capPort (i : Fin 18) : (s.clearRxf i).capPort = s.capPort := rfl
@[simp] theorem clearRxf_cap (i : Fin 18) : (s.clearRxf i).cap = s.cap := rfl
@[simp] theorem clearRxf_txOut (i : Fin 18) : (s.clearRxf i).txOut = s.txOut := rfl
@[simp] theorem clearRxf_handed (i : Fin 18) : (s.clearRxf i).handed = s.handed := rfl
@[simp] theorem clearRxf_datum (i : Fin 18) : (s.clearRxf i).datum = s.datum := rfl
@[simp] theorem clearRxf_tick (i : Fin 18) : (s.clearRxf i).tick = s.tick := rfl

/-! ### setRxfBit -/

@[simp] theorem setRxfBit_txf (i : Fin 18) (j : Fin 8) : (s.setRxfBit i j).txf = s.txf := rfl
@[simp] theorem setRxfBit_txfWritten (i : Fin 18) (j : Fin 8) : (s.setRxfBit i j).txfWritten = s.txfWritten := rfl
@[simp] theorem setRxfBit_txPhase (i : Fin 18) (j : Fin 8) : (s.setRxfBit i j).txPhase = s.txPhase := rfl
@[simp] theorem setRxfBit_txRep (i : Fin 18) (j : Fin 8) : (s.setRxfBit i j).txRep = s.txRep := rfl
@[simp] theorem setRxfBit_txByte (i : Fin 18) (j : Fin 8) : (s.setRxfBit i j).txByte = s.txByte := rfl
@[simp] theorem setRxfBit_txBit (i : Fin 18) (j : Fin 8) : (s.setRxfBit i j).txBit = s.txBit := rfl
@[simp] theorem setRxfBit_rxf (i : Fin 18) (j : Fin 8) : (s.setRxfBit i j).rxf = s.rxf.set i.val (byteSetBit s.rxf[i.val] j.val) i.isLt := rfl
@[simp] theorem setRxfBit_rxfWritten (i : Fin 18) (j : Fin 8) : (s.setRxfBit i j).rxfWritten = s.rxfWritten := rfl
@[simp] theorem setRxfBit_rxPhase (i : Fin 18) (j : Fin 8) : (s.setRxfBit i j).rxPhase = s.rxPhase := rfl
@[simp] theorem setRxfBit_rxByte (i : Fin 18) (j : Fin 8) : (s.setRxfBit i j).rxByte = s.rxByte := rfl
@[simp] theorem setRxfBit_rxBit (i : Fin 18) (j : Fin 8) : (s.setRxfBit i j).rxBit = s.rxBit := rfl
@[simp] theorem setRxfBit_rxCur (i : Fin 18) (j : Fin 8) : (s.setRxfBit i j).rxCur = s.rxCur := rfl
@[simp] theorem setRxfBit_rxStatus (i : Fin 18) (j : Fin 8) : (s.setRxfBit i j).rxStatus = s.rxStatus := rfl
@[simp] theorem setRxfBit_rxErrpos (i : Fin 18) (j : Fin 8) : (s.setRxfBit i j).rxErrpos = s.rxErrpos := rfl
@[simp] theorem setRxfBit_tol (i : Fin 18) (j : Fin 8) : (s.setRxfBit i j).tol = s.tol := rfl
@[simp] theorem setRxfBit_cmd (i : Fin 18) (j : Fin 8) : (s.setRxfBit i j).cmd = s.cmd := rfl
@[simp] theorem setRxfBit_txFrame (i : Fin 18) (j : Fin 8) : (s.setRxfBit i j).txFrame = s.txFrame := rfl
@[simp] theorem setRxfBit_capPort (i : Fin 18) (j : Fin 8) : (s.setRxfBit i j).capPort = s.capPort := rfl
@[simp] theorem setRxfBit_cap (i : Fin 18) (j : Fin 8) : (s.setRxfBit i j).cap = s.cap := rfl
@[simp] theorem setRxfBit_txOut (i : Fin 18) (j : Fin 8) : (s.setRxfBit i j).txOut = s.txOut := rfl
@[simp] theorem setRxfBit_handed (i : Fin 18) (j : Fin 8) : (s.setRxfBit i j).handed = s.handed := rfl
@[simp] theorem setRxfBit_datum (i : Fin 18) (j : Fin 8) : (s.setRxfBit i j).datum = s.datum := rfl
@[simp] theorem setRxfBit_tick (i : Fin 18) (j : Fin 8) : (s.setRxfBit i j).tick = s.tick := rfl

/-! ### loadTxf -/

@[simp] theorem loadTxf_txf : (s.loadTxf).txf = frameOfPort s.txFrame := rfl
@[simp] theorem loadTxf_txfWritten : (s.loadTxf).txfWritten = true := rfl
@[simp] theorem loadTxf_txPhase : (s.loadTxf).txPhase = s.txPhase := rfl
@[simp] theorem loadTxf_txRep : (s.loadTxf).txRep = s.txRep := rfl
@[simp] theorem loadTxf_txByte : (s.loadTxf).txByte = s.txByte := rfl
@[simp] theorem loadTxf_txBit : (s.loadTxf).txBit = s.txBit := rfl
@[simp] theorem loadTxf_rxf : (s.loadTxf).rxf = s.rxf := rfl
@[simp] theorem loadTxf_rxfWritten : (s.loadTxf).rxfWritten = s.rxfWritten := rfl
@[simp] theorem loadTxf_rxPhase : (s.loadTxf).rxPhase = s.rxPhase := rfl
@[simp] theorem loadTxf_rxByte : (s.loadTxf).rxByte = s.rxByte := rfl
@[simp] theorem loadTxf_rxBit : (s.loadTxf).rxBit = s.rxBit := rfl
@[simp] theorem loadTxf_rxCur : (s.loadTxf).rxCur = s.rxCur := rfl
@[simp] theorem loadTxf_rxStatus : (s.loadTxf).rxStatus = s.rxStatus := rfl
@[simp] theorem loadTxf_rxErrpos : (s.loadTxf).rxErrpos = s.rxErrpos := rfl
@[simp] theorem loadTxf_tol : (s.loadTxf).tol = s.tol := rfl
@[simp] theorem loadTxf_cmd : (s.loadTxf).cmd = s.cmd := rfl
@[simp] theorem loadTxf_txFrame : (s.loadTxf).txFrame = s.txFrame := rfl
@[simp] theorem loadTxf_capPort : (s.loadTxf).capPort = s.capPort := rfl
@[simp] theorem loadTxf_cap : (s.loadTxf).cap = s.cap := rfl
@[simp] theorem loadTxf_txOut : (s.loadTxf).txOut = s.txOut := rfl
@[simp] theorem loadTxf_handed : (s.loadTxf).handed = s.handed := rfl
@[simp] theorem loadTxf_datum : (s.loadTxf).datum = s.datum := rfl
@[simp] theorem loadTxf_tick : (s.loadTxf).tick = s.tick := rfl

/-! ### clearTrain -/

@[simp] theorem clearTrain_txf : (s.clearTrain).txf = s.txf := rfl
@[simp] theorem clearTrain_txfWritten : (s.clearTrain).txfWritten = s.txfWritten := rfl
@[simp] theorem clearTrain_txPhase : (s.clearTrain).txPhase = s.txPhase := rfl
@[simp] theorem clearTrain_txRep : (s.clearTrain).txRep = s.txRep := rfl
@[simp] theorem clearTrain_txByte : (s.clearTrain).txByte = s.txByte := rfl
@[simp] theorem clearTrain_txBit : (s.clearTrain).txBit = s.txBit := rfl
@[simp] theorem clearTrain_rxf : (s.clearTrain).rxf = s.rxf := rfl
@[simp] theorem clearTrain_rxfWritten : (s.clearTrain).rxfWritten = s.rxfWritten := rfl
@[simp] theorem clearTrain_rxPhase : (s.clearTrain).rxPhase = s.rxPhase := rfl
@[simp] theorem clearTrain_rxByte : (s.clearTrain).rxByte = s.rxByte := rfl
@[simp] theorem clearTrain_rxBit : (s.clearTrain).rxBit = s.rxBit := rfl
@[simp] theorem clearTrain_rxCur : (s.clearTrain).rxCur = s.rxCur := rfl
@[simp] theorem clearTrain_rxStatus : (s.clearTrain).rxStatus = s.rxStatus := rfl
@[simp] theorem clearTrain_rxErrpos : (s.clearTrain).rxErrpos = s.rxErrpos := rfl
@[simp] theorem clearTrain_tol : (s.clearTrain).tol = s.tol := rfl
@[simp] theorem clearTrain_cmd : (s.clearTrain).cmd = s.cmd := rfl
@[simp] theorem clearTrain_txFrame : (s.clearTrain).txFrame = s.txFrame := rfl
@[simp] theorem clearTrain_capPort : (s.clearTrain).capPort = s.capPort := rfl
@[simp] theorem clearTrain_cap : (s.clearTrain).cap = s.cap := rfl
@[simp] theorem clearTrain_txOut : (s.clearTrain).txOut = [] := rfl
@[simp] theorem clearTrain_handed : (s.clearTrain).handed = s.handed := rfl
@[simp] theorem clearTrain_datum : (s.clearTrain).datum = s.datum := rfl
@[simp] theorem clearTrain_tick : (s.clearTrain).tick = s.tick := rfl

/-! ### latchCap -/

@[simp] theorem latchCap_txf : (s.latchCap).txf = s.txf := rfl
@[simp] theorem latchCap_txfWritten : (s.latchCap).txfWritten = s.txfWritten := rfl
@[simp] theorem latchCap_txPhase : (s.latchCap).txPhase = s.txPhase := rfl
@[simp] theorem latchCap_txRep : (s.latchCap).txRep = s.txRep := rfl
@[simp] theorem latchCap_txByte : (s.latchCap).txByte = s.txByte := rfl
@[simp] theorem latchCap_txBit : (s.latchCap).txBit = s.txBit := rfl
@[simp] theorem latchCap_rxf : (s.latchCap).rxf = s.rxf := rfl
@[simp] theorem latchCap_rxfWritten : (s.latchCap).rxfWritten = s.rxfWritten := rfl
@[simp] theorem latchCap_rxPhase : (s.latchCap).rxPhase = s.rxPhase := rfl
@[simp] theorem latchCap_rxByte : (s.latchCap).rxByte = s.rxByte := rfl
@[simp] theorem latchCap_rxBit : (s.latchCap).rxBit = s.rxBit := rfl
@[simp] theorem latchCap_rxCur : (s.latchCap).rxCur = s.rxCur := rfl
@[simp] theorem latchCap_rxStatus : (s.latchCap).rxStatus = s.rxStatus := rfl
@[simp] theorem latchCap_rxErrpos : (s.latchCap).rxErrpos = s.rxErrpos := rfl
@[simp] theorem latchCap_tol : (s.latchCap).tol = s.tol := rfl
@[simp] theorem latchCap_cmd : (s.latchCap).cmd = s.cmd := rfl
@[simp] theorem latchCap_txFrame : (s.latchCap).txFrame = s.txFrame := rfl
@[simp] theorem latchCap_capPort : (s.latchCap).capPort = s.capPort := rfl
@[simp] theorem latchCap_cap : (s.latchCap).cap = s.capPort := rfl
@[simp] theorem latchCap_txOut : (s.latchCap).txOut = s.txOut := rfl
@[simp] theorem latchCap_handed : (s.latchCap).handed = s.handed := rfl
@[simp] theorem latchCap_datum : (s.latchCap).datum = s.datum := rfl
@[simp] theorem latchCap_tick : (s.latchCap).tick = s.tick := rfl

/-! ### handOver -/

@[simp] theorem handOver_txf (F : Frame) : (s.handOver F).txf = s.txf := rfl
@[simp] theorem handOver_txfWritten (F : Frame) : (s.handOver F).txfWritten = s.txfWritten := rfl
@[simp] theorem handOver_txPhase (F : Frame) : (s.handOver F).txPhase = s.txPhase := rfl
@[simp] theorem handOver_txRep (F : Frame) : (s.handOver F).txRep = s.txRep := rfl
@[simp] theorem handOver_txByte (F : Frame) : (s.handOver F).txByte = s.txByte := rfl
@[simp] theorem handOver_txBit (F : Frame) : (s.handOver F).txBit = s.txBit := rfl
@[simp] theorem handOver_rxf (F : Frame) : (s.handOver F).rxf = s.rxf := rfl
@[simp] theorem handOver_rxfWritten (F : Frame) : (s.handOver F).rxfWritten = s.rxfWritten := rfl
@[simp] theorem handOver_rxPhase (F : Frame) : (s.handOver F).rxPhase = s.rxPhase := rfl
@[simp] theorem handOver_rxByte (F : Frame) : (s.handOver F).rxByte = s.rxByte := rfl
@[simp] theorem handOver_rxBit (F : Frame) : (s.handOver F).rxBit = s.rxBit := rfl
@[simp] theorem handOver_rxCur (F : Frame) : (s.handOver F).rxCur = s.rxCur := rfl
@[simp] theorem handOver_rxStatus (F : Frame) : (s.handOver F).rxStatus = s.rxStatus := rfl
@[simp] theorem handOver_rxErrpos (F : Frame) : (s.handOver F).rxErrpos = s.rxErrpos := rfl
@[simp] theorem handOver_tol (F : Frame) : (s.handOver F).tol = s.tol := rfl
@[simp] theorem handOver_cmd (F : Frame) : (s.handOver F).cmd = s.cmd := rfl
@[simp] theorem handOver_txFrame (F : Frame) : (s.handOver F).txFrame = s.txFrame := rfl
@[simp] theorem handOver_capPort (F : Frame) : (s.handOver F).capPort = s.capPort := rfl
@[simp] theorem handOver_cap (F : Frame) : (s.handOver F).cap = s.cap := rfl
@[simp] theorem handOver_txOut (F : Frame) : (s.handOver F).txOut = s.txOut := rfl
@[simp] theorem handOver_handed (F : Frame) : (s.handOver F).handed = s.handed ++ [F] := rfl
@[simp] theorem handOver_datum (F : Frame) : (s.handOver F).datum = s.datum := rfl
@[simp] theorem handOver_tick (F : Frame) : (s.handOver F).tick = s.tick := rfl

/-! ### takeCmd -/

@[simp] theorem takeCmd_txf : (s.takeCmd).txf = s.txf := rfl
@[simp] theorem takeCmd_txfWritten : (s.takeCmd).txfWritten = s.txfWritten := rfl
@[simp] theorem takeCmd_txPhase : (s.takeCmd).txPhase = s.txPhase := rfl
@[simp] theorem takeCmd_txRep : (s.takeCmd).txRep = s.txRep := rfl
@[simp] theorem takeCmd_txByte : (s.takeCmd).txByte = s.txByte := rfl
@[simp] theorem takeCmd_txBit : (s.takeCmd).txBit = s.txBit := rfl
@[simp] theorem takeCmd_rxf : (s.takeCmd).rxf = s.rxf := rfl
@[simp] theorem takeCmd_rxfWritten : (s.takeCmd).rxfWritten = s.rxfWritten := rfl
@[simp] theorem takeCmd_rxPhase : (s.takeCmd).rxPhase = s.rxPhase := rfl
@[simp] theorem takeCmd_rxByte : (s.takeCmd).rxByte = s.rxByte := rfl
@[simp] theorem takeCmd_rxBit : (s.takeCmd).rxBit = s.rxBit := rfl
@[simp] theorem takeCmd_rxCur : (s.takeCmd).rxCur = s.rxCur := rfl
@[simp] theorem takeCmd_rxStatus : (s.takeCmd).rxStatus = s.rxStatus := rfl
@[simp] theorem takeCmd_rxErrpos : (s.takeCmd).rxErrpos = s.rxErrpos := rfl
@[simp] theorem takeCmd_tol : (s.takeCmd).tol = s.tol := rfl
@[simp] theorem takeCmd_cmd : (s.takeCmd).cmd = 0 := rfl
@[simp] theorem takeCmd_txFrame : (s.takeCmd).txFrame = s.txFrame := rfl
@[simp] theorem takeCmd_capPort : (s.takeCmd).capPort = s.capPort := rfl
@[simp] theorem takeCmd_cap : (s.takeCmd).cap = s.cap := rfl
@[simp] theorem takeCmd_txOut : (s.takeCmd).txOut = s.txOut := rfl
@[simp] theorem takeCmd_handed : (s.takeCmd).handed = s.handed := rfl
@[simp] theorem takeCmd_datum : (s.takeCmd).datum = s.datum := rfl
@[simp] theorem takeCmd_tick : (s.takeCmd).tick = s.tick := rfl

/-! ### takeDatum -/

@[simp] theorem takeDatum_txf : (s.takeDatum).txf = s.txf := rfl
@[simp] theorem takeDatum_txfWritten : (s.takeDatum).txfWritten = s.txfWritten := rfl
@[simp] theorem takeDatum_txPhase : (s.takeDatum).txPhase = s.txPhase := rfl
@[simp] theorem takeDatum_txRep : (s.takeDatum).txRep = s.txRep := rfl
@[simp] theorem takeDatum_txByte : (s.takeDatum).txByte = s.txByte := rfl
@[simp] theorem takeDatum_txBit : (s.takeDatum).txBit = s.txBit := rfl
@[simp] theorem takeDatum_rxf : (s.takeDatum).rxf = s.rxf := rfl
@[simp] theorem takeDatum_rxfWritten : (s.takeDatum).rxfWritten = s.rxfWritten := rfl
@[simp] theorem takeDatum_rxPhase : (s.takeDatum).rxPhase = s.rxPhase := rfl
@[simp] theorem takeDatum_rxByte : (s.takeDatum).rxByte = s.rxByte := rfl
@[simp] theorem takeDatum_rxBit : (s.takeDatum).rxBit = s.rxBit := rfl
@[simp] theorem takeDatum_rxCur : (s.takeDatum).rxCur = s.rxCur := rfl
@[simp] theorem takeDatum_rxStatus : (s.takeDatum).rxStatus = s.rxStatus := rfl
@[simp] theorem takeDatum_rxErrpos : (s.takeDatum).rxErrpos = s.rxErrpos := rfl
@[simp] theorem takeDatum_tol : (s.takeDatum).tol = s.tol := rfl
@[simp] theorem takeDatum_cmd : (s.takeDatum).cmd = s.cmd := rfl
@[simp] theorem takeDatum_txFrame : (s.takeDatum).txFrame = s.txFrame := rfl
@[simp] theorem takeDatum_capPort : (s.takeDatum).capPort = s.capPort := rfl
@[simp] theorem takeDatum_cap : (s.takeDatum).cap = s.cap := rfl
@[simp] theorem takeDatum_txOut : (s.takeDatum).txOut = s.txOut := rfl
@[simp] theorem takeDatum_handed : (s.takeDatum).handed = s.handed := rfl
@[simp] theorem takeDatum_datum : (s.takeDatum).datum = none := rfl
@[simp] theorem takeDatum_tick : (s.takeDatum).tick = s.tick := rfl

/-! ### driveTxFrame -/

@[simp] theorem driveTxFrame_txf (w : BitVec 144) : (s.driveTxFrame w).txf = s.txf := rfl
@[simp] theorem driveTxFrame_txfWritten (w : BitVec 144) : (s.driveTxFrame w).txfWritten = s.txfWritten := rfl
@[simp] theorem driveTxFrame_txPhase (w : BitVec 144) : (s.driveTxFrame w).txPhase = s.txPhase := rfl
@[simp] theorem driveTxFrame_txRep (w : BitVec 144) : (s.driveTxFrame w).txRep = s.txRep := rfl
@[simp] theorem driveTxFrame_txByte (w : BitVec 144) : (s.driveTxFrame w).txByte = s.txByte := rfl
@[simp] theorem driveTxFrame_txBit (w : BitVec 144) : (s.driveTxFrame w).txBit = s.txBit := rfl
@[simp] theorem driveTxFrame_rxf (w : BitVec 144) : (s.driveTxFrame w).rxf = s.rxf := rfl
@[simp] theorem driveTxFrame_rxfWritten (w : BitVec 144) : (s.driveTxFrame w).rxfWritten = s.rxfWritten := rfl
@[simp] theorem driveTxFrame_rxPhase (w : BitVec 144) : (s.driveTxFrame w).rxPhase = s.rxPhase := rfl
@[simp] theorem driveTxFrame_rxByte (w : BitVec 144) : (s.driveTxFrame w).rxByte = s.rxByte := rfl
@[simp] theorem driveTxFrame_rxBit (w : BitVec 144) : (s.driveTxFrame w).rxBit = s.rxBit := rfl
@[simp] theorem driveTxFrame_rxCur (w : BitVec 144) : (s.driveTxFrame w).rxCur = s.rxCur := rfl
@[simp] theorem driveTxFrame_rxStatus (w : BitVec 144) : (s.driveTxFrame w).rxStatus = s.rxStatus := rfl
@[simp] theorem driveTxFrame_rxErrpos (w : BitVec 144) : (s.driveTxFrame w).rxErrpos = s.rxErrpos := rfl
@[simp] theorem driveTxFrame_tol (w : BitVec 144) : (s.driveTxFrame w).tol = s.tol := rfl
@[simp] theorem driveTxFrame_cmd (w : BitVec 144) : (s.driveTxFrame w).cmd = s.cmd := rfl
@[simp] theorem driveTxFrame_txFrame (w : BitVec 144) : (s.driveTxFrame w).txFrame = w := rfl
@[simp] theorem driveTxFrame_capPort (w : BitVec 144) : (s.driveTxFrame w).capPort = s.capPort := rfl
@[simp] theorem driveTxFrame_cap (w : BitVec 144) : (s.driveTxFrame w).cap = s.cap := rfl
@[simp] theorem driveTxFrame_txOut (w : BitVec 144) : (s.driveTxFrame w).txOut = s.txOut := rfl
@[simp] theorem driveTxFrame_handed (w : BitVec 144) : (s.driveTxFrame w).handed = s.handed := rfl
@[simp] theorem driveTxFrame_datum (w : BitVec 144) : (s.driveTxFrame w).datum = s.datum := rfl
@[simp] theorem driveTxFrame_tick (w : BitVec 144) : (s.driveTxFrame w).tick = s.tick := rfl

/-! ### countTick -/

@[simp] theorem countTick_txf : (s.countTick).txf = s.txf := rfl
@[simp] theorem countTick_txfWritten : (s.countTick).txfWritten = s.txfWritten := rfl
@[simp] theorem countTick_txPhase : (s.countTick).txPhase = s.txPhase := rfl
@[simp] theorem countTick_txRep : (s.countTick).txRep = s.txRep := rfl
@[simp] theorem countTick_txByte : (s.countTick).txByte = s.txByte := rfl
@[simp] theorem countTick_txBit : (s.countTick).txBit = s.txBit := rfl
@[simp] theorem countTick_rxf : (s.countTick).rxf = s.rxf := rfl
@[simp] theorem countTick_rxfWritten : (s.countTick).rxfWritten = s.rxfWritten := rfl
@[simp] theorem countTick_rxPhase : (s.countTick).rxPhase = s.rxPhase := rfl
@[simp] theorem countTick_rxByte : (s.countTick).rxByte = s.rxByte := rfl
@[simp] theorem countTick_rxBit : (s.countTick).rxBit = s.rxBit := rfl
@[simp] theorem countTick_rxCur : (s.countTick).rxCur = s.rxCur := rfl
@[simp] theorem countTick_rxStatus : (s.countTick).rxStatus = s.rxStatus := rfl
@[simp] theorem countTick_rxErrpos : (s.countTick).rxErrpos = s.rxErrpos := rfl
@[simp] theorem countTick_tol : (s.countTick).tol = s.tol := rfl
@[simp] theorem countTick_cmd : (s.countTick).cmd = s.cmd := rfl
@[simp] theorem countTick_txFrame : (s.countTick).txFrame = s.txFrame := rfl
@[simp] theorem countTick_capPort : (s.countTick).capPort = s.capPort := rfl
@[simp] theorem countTick_cap : (s.countTick).cap = s.cap := rfl
@[simp] theorem countTick_txOut : (s.countTick).txOut = s.txOut := rfl
@[simp] theorem countTick_handed : (s.countTick).handed = s.handed := rfl
@[simp] theorem countTick_datum : (s.countTick).datum = s.datum := rfl
@[simp] theorem countTick_tick : (s.countTick).tick = s.tick + 1 := rfl

end Sys2Proof.Machine
end

