-- ==== Sys2Proof/Laws/Ops.lean ====
section
/-! SUPPORT. For each shared operation of the machine one lemma that says everything it can do, to be cited instead of
unfolding it. The first section gives the definitions that are written over the configured sizes in figures. -/

namespace Sys2Proof.Machine

/-! ### The figures of the configuration -/

/-- `N_BITS` is 18×8 (R5). -/
theorem nBits_eq : Config.nBits = Config.nBytes * Config.byteW := rfl

/-- A byte is as wide as `BYTE_W` says (R5). -/
theorem byte_eq : Byte = BitVec Config.byteW := rfl

/-- The frame integer is as wide as `N_BITS` says (R5, R6). -/
theorem frameInt_width : BitVec 144 = BitVec Config.nBits := rfl

/-- The frame integer in figures (R6). -/
theorem frameInt_eq (F : Frame) : frameInt F = F.foldr (fun b (acc : BitVec 144) => (acc <<< 8) ||| b.setWidth 144) 0 :=
  rfl

/-- The frame on a port in figures (R24, R30). -/
theorem frameOfPort_eq (w : BitVec 144) : frameOfPort w = Vector.ofFn fun i : Fin 18 => w.extractLsb' (8 * i.val) 8 := rfl

/-- The position registers stay below the configured figures (R14, R15). -/
theorem txByte_lt (s : State) : s.txByte.val < 18 := s.txByte.isLt
theorem txBit_lt (s : State) : s.txBit.val < 8 := s.txBit.isLt
theorem txRep_lt (s : State) : s.txRep.val < 2 := s.txRep.isLt
theorem rxByte_lt (s : State) : s.rxByte.val < 18 := s.rxByte.isLt
theorem rxBit_lt (s : State) : s.rxBit.val < 8 := s.rxBit.isLt

/-- The inner loop of `RxDecode` runs over the eight bits of a byte, the outer over the 18 bytes (R90). -/
theorem decodeBytes_succ (t : Tolerance) (cap : List Event) (n i c : Nat) (R : Frame) :
    decodeBytes t cap (n + 1) i c R =
      match decodeBits t cap 8 0 c 0 with
      | .error j => .err (.bitTimingMismatch (8 * i + j))
      | .ok (b, c') =>
        if byteAllowed i b then decodeBytes t cap n (i + 1) c' (R.setIfInBounds i b)
        else .err (.fixedByteMismatch i) := rfl

/-- `RxDecode` in figures (R90). -/
theorem rxDecode_eq (t : Tolerance) (cap : List Event) :
    rxDecode t cap =
      if itemMatches t cap 0 3500 1700 then decodeBytes t cap 18 0 2 (Vector.replicate 18 0)
      else .err .headerMismatch := rfl

/-- One repetition in figures (R70). -/
theorem repetition_eq (F : Frame) :
    repetition F =
      [.mark 3500, .space 1700] ++
        (List.range 18).flatMap fun i => (List.range 8).flatMap fun j =>
          [.mark 430, .space (if frameBit F i j then 1250 else 390)] := by
  have h (b : Bool) : symbolEvents (bitSymbol b) = [.mark 430, .space (if b then 1250 else 390)] := by
    cases b <;> rfl
  simp only [repetition, h]
  rfl

/-- `FIXED_POS` is the seven indices of R5 and R19. -/
theorem fixedPos_eq : Config.fixedPos = [0, 1, 2, 3, 4, 13, 16] := rfl

/-- The mask built from `FIXED_POS` is the figure R57 writes out. -/
theorem frameMask_eq : Config.frameMask = 0x00FF0000FF0000000000000000FFFFFFFFFF := by decide

/-- The match value built from `FIXED` is the figure R57 writes out. -/
theorem frameMatch_eq : Config.frameMatch = 0x000000000000000000000000000126CB23 := by decide

/-- With two repetitions the train is R70's: repetition, gap, repetition, footer. -/
theorem txTrain_eq (F : Frame) :
    txTrain F = repetition F ++ symbolEvents .gap ++ repetition F ++ symbolEvents .footer := by
  simp [txTrain, repetitions]

/-- The wire index in figures (R6, R141). -/
theorem wireIndex_eq (i : Fin 18) (j : Fin 8) : wireIndex i j = 8 * i.val + j.val := rfl

/-- The data bit at wire position `k` in figures (R6, R30). -/
theorem wireBit_eq (F : Frame) (k : Nat) : wireBit F k = frameBit F (k / 8) (k % 8) := rfl

/-! ### Serializer operations -/

/-- Emitting a symbol appends its events to what the transmit collaborator holds and changes nothing else. -/
theorem emitSymbol_eq (y : Symbol) (s : State) :
    s.emitSymbol y = { s with txOut := s.txOut ++ (symbolEvents y).map .event } := rfl

/-- Emitting a symbol is one `Emit` for each of its events, in order (R33). -/
theorem emitSymbol_eq_emits (y : Symbol) (s : State) :
    s.emitSymbol y = (symbolEvents y).foldl (fun s e => s.emit e) s := by
  cases y <;> simp [State.emitSymbol, symbolEvents, State.emit, State.strobe]

@[simp] theorem emitSymbol_txOut (y : Symbol) (s : State) :
    (s.emitSymbol y).txOut = s.txOut ++ (symbolEvents y).map .event := by rw [emitSymbol_eq]

/-- The bit of `TXF` that `TX.BIT` sends. -/
theorem readTxfBit_eq (i : Fin 18) (j : Fin 8) (s : State) : s.readTxfBit i j = s.txf[i.val].getLsbD j.val := rfl

/-- The successor of `TX.BIT` keeps the repetition and is one of four positions; nothing but the position changes. -/
theorem advanceTx_cases (s : State) :
    (s.txBit.val < 7 ∧ s.advanceTx = s.setTxPc .bit s.txRep s.txByte (s.txBit + 1)) ∨
    (s.txBit.val = 7 ∧ s.txByte.val < 17 ∧ s.advanceTx = s.setTxPc .bit s.txRep (s.txByte + 1) 0) ∨
    (s.txBit.val = 7 ∧ s.txByte.val = 17 ∧ s.txRep = 0 ∧ s.advanceTx = s.setTxPc .gap 0 0 0) ∨
    (s.txBit.val = 7 ∧ s.txByte.val = 17 ∧ s.txRep = 1 ∧ s.advanceTx = s.setTxPc .foot 1 0 0) := by
  have hj : s.txBit.val < 8 := s.txBit.isLt
  have hi : s.txByte.val < 18 := s.txByte.isLt
  have hr : s.txRep.val < 2 := s.txRep.isLt
  simp only [State.advanceTx, Config.byteW, Config.nBytes, Config.nRep]
  split
  · exact .inl ⟨by omega, rfl⟩
  · split
    · exact .inr (.inl ⟨by omega, by omega, rfl⟩)
    · split
      · exact .inr (.inr (.inl ⟨by omega, by omega, Fin.ext (show s.txRep.val = 0 by omega), rfl⟩))
      · exact .inr (.inr (.inr ⟨by omega, by omega, Fin.ext (show s.txRep.val = 1 by omega), rfl⟩))

/-! ### Deserializer operations -/

/-- A capture can be presented exactly when it is within `CAP_MAX`, and then only the port changes (R24, R35). -/
theorem presentCap_eq_some {cap : List Event} {s t : State} :
    s.presentCap cap = some t ↔ cap.length ≤ Config.capMax ∧ t = { s with capPort := cap } := by
  unfold State.presentCap
  split <;> simp_all [eq_comm]

/-- A query answers exactly when the next two events match, and then only moves the position past them (R36). -/
theorem expectItem_eq_some {m sp : Nat} {s t : State} :
    s.expectItem m sp = some t ↔
      itemMatches s.tol s.cap s.rxCur m sp = true ∧ t = s.setRxCur (s.rxCur + 2) := by
  cases h : itemMatches s.tol s.cap s.rxCur m sp <;> simp [State.expectItem, h, eq_comm]

/-- A query that does not answer is one whose two events do not match (R36). -/
theorem expectItem_eq_none {m sp : Nat} {s : State} :
    s.expectItem m sp = none ↔ itemMatches s.tol s.cap s.rxCur m sp = false := by
  unfold State.expectItem
  split <;> simp_all

/-- A match needs both events to be there, the first a mark and the second a space, each within its window (R35, R36). -/
theorem itemMatches_iff {t : Tolerance} {cap : List Event} {c m sp : Nat} :
    itemMatches t cap c m sp = true ↔
      ∃ d0 d1, cap[c]? = some (.mark d0) ∧ cap[c + 1]? = some (.space d1) ∧
        accepts t m d0 = true ∧ accepts t sp d1 = true := by
  unfold itemMatches
  split
  · rename_i d0 d1 h0 h1
    rw [h0, h1, Bool.and_eq_true]
    constructor
    · intro h
      exact ⟨d0, d1, rfl, rfl, h.1, h.2⟩
    · rintro ⟨e0, e1, h0', h1', ha, hb⟩
      cases h0'
      cases h1'
      exact ⟨ha, hb⟩
  · rename_i hno
    constructor
    · intro h
      cases h
    · rintro ⟨d0, d1, h0, h1, -, -⟩
      exact (hno d0 d1 h0 h1).elim

/-- Raising an error writes the two result registers and returns to the idle position (R146). -/
theorem raiseRx_eq (e : RxError) (s : State) :
    s.raiseRx e =
      { s with rxStatus := errorStatus e, rxErrpos := errorPos e, rxPhase := .idle, rxByte := 0, rxBit := 0, rxCur := 0 } :=
  rfl

/-- The start of a fresh byte clears it at bit 0 and does nothing at the other bits (R92). -/
theorem beginByte_cases (s : State) :
    (s.rxBit = 0 ∧ s.beginByte = s.clearRxf s.rxByte) ∨ (s.rxBit ≠ 0 ∧ s.beginByte = s) := by
  unfold State.beginByte
  split
  · exact .inl ⟨‹_›, rfl⟩
  · exact .inr ⟨‹_›, rfl⟩

/-- The successor of `RX.BIT` is the next bit of the byte or its check (R92, R95). -/
theorem advanceRx_cases (s : State) :
    (s.rxBit.val < 7 ∧ s.advanceRx = s.setRxPc .bit s.rxByte (s.rxBit + 1) s.rxCur) ∨
    (s.rxBit.val = 7 ∧ s.advanceRx = s.setRxPc .chk s.rxByte 0 s.rxCur) := by
  have hj : s.rxBit.val < 8 := s.rxBit.isLt
  simp only [State.advanceRx, Config.byteW]
  split
  · exact .inl ⟨by omega, rfl⟩
  · exact .inr ⟨by omega, rfl⟩

/-- The byte of `RXF` that `RX.CHK` compares. -/
theorem readRxf_eq (i : Fin 18) (s : State) : s.readRxf i = s.rxf[i.val] := rfl

/-- The success action writes the result, hands `RXF` over and returns to the idle position (R94). -/
theorem finishRx_eq (s : State) :
    s.finishRx =
      { s with
        rxStatus := .ok, rxErrpos := 0, handed := s.handed ++ [s.rxf], rxPhase := .idle, rxByte := 0, rxBit := 0,
        rxCur := 0 } :=
  rfl

/-- What follows a check that raises nothing: the next byte, or the success action after byte 17 (R93, R95). -/
theorem passCheck_cases (s : State) :
    (s.rxByte.val < 17 ∧ s.passCheck = s.setRxPc .bit (s.rxByte + 1) 0 s.rxCur) ∨
    (s.rxByte.val = 17 ∧ s.passCheck = s.finishRx) := by
  have hi : s.rxByte.val < 18 := s.rxByte.isLt
  simp only [State.passCheck, Config.nBytes]
  split
  · exact .inl ⟨by omega, rfl⟩
  · exact .inr ⟨by omega, rfl⟩

/-- What `RX.BIT` can do: read a bit and advance, or raise (R92). -/
theorem execRxBit_cases (s : State) :
    (itemMatches s.tol s.cap s.rxCur 430 1250 = true ∧
      execRxBit s = .next (((s.beginByte).setRxCur (s.rxCur + 2)).setRxfBit s.rxByte s.rxBit).advanceRx) ∨
    (itemMatches s.tol s.cap s.rxCur 430 1250 = false ∧ itemMatches s.tol s.cap s.rxCur 430 390 = true ∧
      execRxBit s = .next ((s.beginByte).setRxCur (s.rxCur + 2)).advanceRx) ∨
    (itemMatches s.tol s.cap s.rxCur 430 1250 = false ∧ itemMatches s.tol s.cap s.rxCur 430 390 = false ∧
      execRxBit s = .next (s.beginByte.raiseRx (.bitTimingMismatch (wireIndex s.rxByte s.rxBit)))) := by
  have ht : s.beginByte.tol = s.tol := by rcases beginByte_cases s with ⟨-, h⟩ | ⟨-, h⟩ <;> simp [h]
  have hc : s.beginByte.cap = s.cap := by rcases beginByte_cases s with ⟨-, h⟩ | ⟨-, h⟩ <;> simp [h]
  have hk : s.beginByte.rxCur = s.rxCur := by rcases beginByte_cases s with ⟨-, h⟩ | ⟨-, h⟩ <;> simp [h]
  simp only [execRxBit, State.expectItem, ht, hc, hk, Config.timing]
  cases h1 : itemMatches s.tol s.cap s.rxCur 430 1250
  · cases h0 : itemMatches s.tol s.cap s.rxCur 430 390
    · exact .inr (.inr ⟨rfl, rfl, by simp⟩)
    · exact .inr (.inl ⟨rfl, rfl, by simp⟩)
  · exact .inl ⟨rfl, by simp⟩

/-- What `RX.CHK` can do: raise on a wrong fixed byte, or pass (R93). -/
theorem execRxChk_cases (s : State) :
    (∃ v, fixedAt s.rxByte.val = some v ∧ s.rxf[s.rxByte.val] ≠ v ∧
      execRxChk s = .next (s.raiseRx (.fixedByteMismatch s.rxByte.val))) ∨
    (byteAllowed s.rxByte.val s.rxf[s.rxByte.val] = true ∧ execRxChk s = .next s.passCheck) := by
  unfold execRxChk byteAllowed State.readRxf
  cases hf : fixedAt s.rxByte.val with
  | none => exact .inr ⟨rfl, rfl⟩
  | some v =>
    by_cases hb : s.rxf[s.rxByte.val] = v
    · exact .inr ⟨by simp [hb], by simp [hb]⟩
    · exact .inl ⟨v, rfl, hb, by simp [hb]⟩

/-! ### Fetching -/

/-- A phase code of the serializer decodes to that phase's micro-operation (R14, R58). -/
theorem decode_txPhase_code (ph : TxPhase) :
    decode (.txPhase ph.code) = .ok (match ph with
      | .idle => .txIdle
      | .carrier => .txCarrier
      | .hdr => .txHdr
      | .bit => .txBit
      | .gap => .txGap
      | .foot => .txFoot
      | .perform => .txPerform) := by
  cases ph <;> rfl

/-- A phase code of the deserializer decodes to that phase's micro-operation (R15, R58). -/
theorem decode_rxPhase_code (ph : RxPhase) :
    decode (.rxPhase ph.code) = .ok (match ph with
      | .idle => .rxIdle
      | .hdr => .rxHdr
      | .bit => .rxBit
      | .chk => .rxChk) := by
  cases ph <;> rfl

/-! ### Events on a port -/

/-- An event is what its kind bit and its duration stand for on a port (R65). -/
theorem event_ofPort_kindBit_dur (e : Event) : Event.ofPort e.kindBit e.dur = e := by
  cases e <;> rfl

end Sys2Proof.Machine
end

