-- ==== Sys2Proof/Laws/Frames.lean ====
section
/-! SUPPORT. One lemma per field for the operations composed of several updates: which field each writes, and that it
leaves every other field alone. -/

namespace Sys2Proof.Machine

variable (s : State)

/-! ### emitSymbol -/

@[simp] theorem emitSymbol_txf (y : Symbol) : (s.emitSymbol y).txf = s.txf := by rw [emitSymbol_eq]
@[simp] theorem emitSymbol_txfWritten (y : Symbol) : (s.emitSymbol y).txfWritten = s.txfWritten := by rw [emitSymbol_eq]
@[simp] theorem emitSymbol_txPhase (y : Symbol) : (s.emitSymbol y).txPhase = s.txPhase := by rw [emitSymbol_eq]
@[simp] theorem emitSymbol_txRep (y : Symbol) : (s.emitSymbol y).txRep = s.txRep := by rw [emitSymbol_eq]
@[simp] theorem emitSymbol_txByte (y : Symbol) : (s.emitSymbol y).txByte = s.txByte := by rw [emitSymbol_eq]
@[simp] theorem emitSymbol_txBit (y : Symbol) : (s.emitSymbol y).txBit = s.txBit := by rw [emitSymbol_eq]
@[simp] theorem emitSymbol_rxf (y : Symbol) : (s.emitSymbol y).rxf = s.rxf := by rw [emitSymbol_eq]
@[simp] theorem emitSymbol_rxfWritten (y : Symbol) : (s.emitSymbol y).rxfWritten = s.rxfWritten := by rw [emitSymbol_eq]
@[simp] theorem emitSymbol_rxPhase (y : Symbol) : (s.emitSymbol y).rxPhase = s.rxPhase := by rw [emitSymbol_eq]
@[simp] theorem emitSymbol_rxByte (y : Symbol) : (s.emitSymbol y).rxByte = s.rxByte := by rw [emitSymbol_eq]
@[simp] theorem emitSymbol_rxBit (y : Symbol) : (s.emitSymbol y).rxBit = s.rxBit := by rw [emitSymbol_eq]
@[simp] theorem emitSymbol_rxCur (y : Symbol) : (s.emitSymbol y).rxCur = s.rxCur := by rw [emitSymbol_eq]
@[simp] theorem emitSymbol_rxStatus (y : Symbol) : (s.emitSymbol y).rxStatus = s.rxStatus := by rw [emitSymbol_eq]
@[simp] theorem emitSymbol_rxErrpos (y : Symbol) : (s.emitSymbol y).rxErrpos = s.rxErrpos := by rw [emitSymbol_eq]
@[simp] theorem emitSymbol_tol (y : Symbol) : (s.emitSymbol y).tol = s.tol := by rw [emitSymbol_eq]
@[simp] theorem emitSymbol_cmd (y : Symbol) : (s.emitSymbol y).cmd = s.cmd := by rw [emitSymbol_eq]
@[simp] theorem emitSymbol_txFrame (y : Symbol) : (s.emitSymbol y).txFrame = s.txFrame := by rw [emitSymbol_eq]
@[simp] theorem emitSymbol_capPort (y : Symbol) : (s.emitSymbol y).capPort = s.capPort := by rw [emitSymbol_eq]
@[simp] theorem emitSymbol_cap (y : Symbol) : (s.emitSymbol y).cap = s.cap := by rw [emitSymbol_eq]
@[simp] theorem emitSymbol_handed (y : Symbol) : (s.emitSymbol y).handed = s.handed := by rw [emitSymbol_eq]
@[simp] theorem emitSymbol_datum (y : Symbol) : (s.emitSymbol y).datum = s.datum := by rw [emitSymbol_eq]
@[simp] theorem emitSymbol_tick (y : Symbol) : (s.emitSymbol y).tick = s.tick := by rw [emitSymbol_eq]

/-! ### raiseRx -/

@[simp] theorem raiseRx_txf (e : RxError) : (s.raiseRx e).txf = s.txf := rfl
@[simp] theorem raiseRx_txfWritten (e : RxError) : (s.raiseRx e).txfWritten = s.txfWritten := rfl
@[simp] theorem raiseRx_txPhase (e : RxError) : (s.raiseRx e).txPhase = s.txPhase := rfl
@[simp] theorem raiseRx_txRep (e : RxError) : (s.raiseRx e).txRep = s.txRep := rfl
@[simp] theorem raiseRx_txByte (e : RxError) : (s.raiseRx e).txByte = s.txByte := rfl
@[simp] theorem raiseRx_txBit (e : RxError) : (s.raiseRx e).txBit = s.txBit := rfl
@[simp] theorem raiseRx_rxf (e : RxError) : (s.raiseRx e).rxf = s.rxf := rfl
@[simp] theorem raiseRx_rxfWritten (e : RxError) : (s.raiseRx e).rxfWritten = s.rxfWritten := rfl
@[simp] theorem raiseRx_rxPhase (e : RxError) : (s.raiseRx e).rxPhase = .idle := rfl
@[simp] theorem raiseRx_rxByte (e : RxError) : (s.raiseRx e).rxByte = 0 := rfl
@[simp] theorem raiseRx_rxBit (e : RxError) : (s.raiseRx e).rxBit = 0 := rfl
@[simp] theorem raiseRx_rxCur (e : RxError) : (s.raiseRx e).rxCur = 0 := rfl
@[simp] theorem raiseRx_rxStatus (e : RxError) : (s.raiseRx e).rxStatus = errorStatus e := rfl
@[simp] theorem raiseRx_rxErrpos (e : RxError) : (s.raiseRx e).rxErrpos = errorPos e := rfl
@[simp] theorem raiseRx_tol (e : RxError) : (s.raiseRx e).tol = s.tol := rfl
@[simp] theorem raiseRx_cmd (e : RxError) : (s.raiseRx e).cmd = s.cmd := rfl
@[simp] theorem raiseRx_txFrame (e : RxError) : (s.raiseRx e).txFrame = s.txFrame := rfl
@[simp] theorem raiseRx_capPort (e : RxError) : (s.raiseRx e).capPort = s.capPort := rfl
@[simp] theorem raiseRx_cap (e : RxError) : (s.raiseRx e).cap = s.cap := rfl
@[simp] theorem raiseRx_txOut (e : RxError) : (s.raiseRx e).txOut = s.txOut := rfl
@[simp] theorem raiseRx_handed (e : RxError) : (s.raiseRx e).handed = s.handed := rfl
@[simp] theorem raiseRx_datum (e : RxError) : (s.raiseRx e).datum = s.datum := rfl
@[simp] theorem raiseRx_tick (e : RxError) : (s.raiseRx e).tick = s.tick := rfl

/-! ### startTx -/

@[simp] theorem startTx_txf : (s.startTx).txf = frameOfPort s.txFrame := rfl
@[simp] theorem startTx_txfWritten : (s.startTx).txfWritten = true := rfl
@[simp] theorem startTx_txPhase : (s.startTx).txPhase = .carrier := rfl
@[simp] theorem startTx_txRep : (s.startTx).txRep = 0 := rfl
@[simp] theorem startTx_txByte : (s.startTx).txByte = 0 := rfl
@[simp] theorem startTx_txBit : (s.startTx).txBit = 0 := rfl
@[simp] theorem startTx_rxf : (s.startTx).rxf = s.rxf := rfl
@[simp] theorem startTx_rxfWritten : (s.startTx).rxfWritten = s.rxfWritten := rfl
@[simp] theorem startTx_rxPhase : (s.startTx).rxPhase = s.rxPhase := rfl
@[simp] theorem startTx_rxByte : (s.startTx).rxByte = s.rxByte := rfl
@[simp] theorem startTx_rxBit : (s.startTx).rxBit = s.rxBit := rfl
@[simp] theorem startTx_rxCur : (s.startTx).rxCur = s.rxCur := rfl
@[simp] theorem startTx_rxStatus : (s.startTx).rxStatus = s.rxStatus := rfl
@[simp] theorem startTx_rxErrpos : (s.startTx).rxErrpos = s.rxErrpos := rfl
@[simp] theorem startTx_tol : (s.startTx).tol = s.tol := rfl
@[simp] theorem startTx_cmd : (s.startTx).cmd = 0 := rfl
@[simp] theorem startTx_txFrame : (s.startTx).txFrame = s.txFrame := rfl
@[simp] theorem startTx_capPort : (s.startTx).capPort = s.capPort := rfl
@[simp] theorem startTx_cap : (s.startTx).cap = s.cap := rfl
@[simp] theorem startTx_txOut : (s.startTx).txOut = [] := rfl
@[simp] theorem startTx_handed : (s.startTx).handed = s.handed := rfl
@[simp] theorem startTx_datum : (s.startTx).datum = s.datum := rfl
@[simp] theorem startTx_tick : (s.startTx).tick = s.tick := rfl

/-! ### startRx -/

@[simp] theorem startRx_txf : (s.startRx).txf = s.txf := rfl
@[simp] theorem startRx_txfWritten : (s.startRx).txfWritten = s.txfWritten := rfl
@[simp] theorem startRx_txPhase : (s.startRx).txPhase = s.txPhase := rfl
@[simp] theorem startRx_txRep : (s.startRx).txRep = s.txRep := rfl
@[simp] theorem startRx_txByte : (s.startRx).txByte = s.txByte := rfl
@[simp] theorem startRx_txBit : (s.startRx).txBit = s.txBit := rfl
@[simp] theorem startRx_rxf : (s.startRx).rxf = s.rxf := rfl
@[simp] theorem startRx_rxfWritten : (s.startRx).rxfWritten = s.rxfWritten := rfl
@[simp] theorem startRx_rxPhase : (s.startRx).rxPhase = .hdr := rfl
@[simp] theorem startRx_rxByte : (s.startRx).rxByte = 0 := rfl
@[simp] theorem startRx_rxBit : (s.startRx).rxBit = 0 := rfl
@[simp] theorem startRx_rxCur : (s.startRx).rxCur = 0 := rfl
@[simp] theorem startRx_rxStatus : (s.startRx).rxStatus = .none := rfl
@[simp] theorem startRx_rxErrpos : (s.startRx).rxErrpos = 0 := rfl
@[simp] theorem startRx_tol : (s.startRx).tol = s.tol := rfl
@[simp] theorem startRx_cmd : (s.startRx).cmd = 0 := rfl
@[simp] theorem startRx_txFrame : (s.startRx).txFrame = s.txFrame := rfl
@[simp] theorem startRx_capPort : (s.startRx).capPort = s.capPort := rfl
@[simp] theorem startRx_cap : (s.startRx).cap = s.capPort := rfl
@[simp] theorem startRx_txOut : (s.startRx).txOut = s.txOut := rfl
@[simp] theorem startRx_handed : (s.startRx).handed = s.handed := rfl
@[simp] theorem startRx_datum : (s.startRx).datum = s.datum := rfl
@[simp] theorem startRx_tick : (s.startRx).tick = s.tick := rfl

/-! ### beginByte -/

@[simp] theorem beginByte_txf : (s.beginByte).txf = s.txf := by unfold State.beginByte; split <;> rfl
@[simp] theorem beginByte_txfWritten : (s.beginByte).txfWritten = s.txfWritten := by unfold State.beginByte; split <;> rfl
@[simp] theorem beginByte_txPhase : (s.beginByte).txPhase = s.txPhase := by unfold State.beginByte; split <;> rfl
@[simp] theorem beginByte_txRep : (s.beginByte).txRep = s.txRep := by unfold State.beginByte; split <;> rfl
@[simp] theorem beginByte_txByte : (s.beginByte).txByte = s.txByte := by unfold State.beginByte; split <;> rfl
@[simp] theorem beginByte_txBit : (s.beginByte).txBit = s.txBit := by unfold State.beginByte; split <;> rfl
@[simp] theorem beginByte_rxPhase : (s.beginByte).rxPhase = s.rxPhase := by unfold State.beginByte; split <;> rfl
@[simp] theorem beginByte_rxByte : (s.beginByte).rxByte = s.rxByte := by unfold State.beginByte; split <;> rfl
@[simp] theorem beginByte_rxBit : (s.beginByte).rxBit = s.rxBit := by unfold State.beginByte; split <;> rfl
@[simp] theorem beginByte_rxCur : (s.beginByte).rxCur = s.rxCur := by unfold State.beginByte; split <;> rfl
@[simp] theorem beginByte_rxStatus : (s.beginByte).rxStatus = s.rxStatus := by unfold State.beginByte; split <;> rfl
@[simp] theorem beginByte_rxErrpos : (s.beginByte).rxErrpos = s.rxErrpos := by unfold State.beginByte; split <;> rfl
@[simp] theorem beginByte_tol : (s.beginByte).tol = s.tol := by unfold State.beginByte; split <;> rfl
@[simp] theorem beginByte_cmd : (s.beginByte).cmd = s.cmd := by unfold State.beginByte; split <;> rfl
@[simp] theorem beginByte_txFrame : (s.beginByte).txFrame = s.txFrame := by unfold State.beginByte; split <;> rfl
@[simp] theorem beginByte_capPort : (s.beginByte).capPort = s.capPort := by unfold State.beginByte; split <;> rfl
@[simp] theorem beginByte_cap : (s.beginByte).cap = s.cap := by unfold State.beginByte; split <;> rfl
@[simp] theorem beginByte_txOut : (s.beginByte).txOut = s.txOut := by unfold State.beginByte; split <;> rfl
@[simp] theorem beginByte_handed : (s.beginByte).handed = s.handed := by unfold State.beginByte; split <;> rfl
@[simp] theorem beginByte_datum : (s.beginByte).datum = s.datum := by unfold State.beginByte; split <;> rfl
@[simp] theorem beginByte_tick : (s.beginByte).tick = s.tick := by unfold State.beginByte; split <;> rfl

/-! ### advanceTx -/

@[simp] theorem advanceTx_txf : (s.advanceTx).txf = s.txf := by unfold State.advanceTx; (repeat' split) <;> rfl
@[simp] theorem advanceTx_txfWritten : (s.advanceTx).txfWritten = s.txfWritten := by unfold State.advanceTx; (repeat' split) <;> rfl
@[simp] theorem advanceTx_rxf : (s.advanceTx).rxf = s.rxf := by unfold State.advanceTx; (repeat' split) <;> rfl
@[simp] theorem advanceTx_rxfWritten : (s.advanceTx).rxfWritten = s.rxfWritten := by unfold State.advanceTx; (repeat' split) <;> rfl
@[simp] theorem advanceTx_rxPhase : (s.advanceTx).rxPhase = s.rxPhase := by unfold State.advanceTx; (repeat' split) <;> rfl
@[simp] theorem advanceTx_rxByte : (s.advanceTx).rxByte = s.rxByte := by unfold State.advanceTx; (repeat' split) <;> rfl
@[simp] theorem advanceTx_rxBit : (s.advanceTx).rxBit = s.rxBit := by unfold State.advanceTx; (repeat' split) <;> rfl
@[simp] theorem advanceTx_rxCur : (s.advanceTx).rxCur = s.rxCur := by unfold State.advanceTx; (repeat' split) <;> rfl
@[simp] theorem advanceTx_rxStatus : (s.advanceTx).rxStatus = s.rxStatus := by unfold State.advanceTx; (repeat' split) <;> rfl
@[simp] theorem advanceTx_rxErrpos : (s.advanceTx).rxErrpos = s.rxErrpos := by unfold State.advanceTx; (repeat' split) <;> rfl
@[simp] theorem advanceTx_tol : (s.advanceTx).tol = s.tol := by unfold State.advanceTx; (repeat' split) <;> rfl
@[simp] theorem advanceTx_cmd : (s.advanceTx).cmd = s.cmd := by unfold State.advanceTx; (repeat' split) <;> rfl
@[simp] theorem advanceTx_txFrame : (s.advanceTx).txFrame = s.txFrame := by unfold State.advanceTx; (repeat' split) <;> rfl
@[simp] theorem advanceTx_capPort : (s.advanceTx).capPort = s.capPort := by unfold State.advanceTx; (repeat' split) <;> rfl
@[simp] theorem advanceTx_cap : (s.advanceTx).cap = s.cap := by unfold State.advanceTx; (repeat' split) <;> rfl
@[simp] theorem advanceTx_txOut : (s.advanceTx).txOut = s.txOut := by unfold State.advanceTx; (repeat' split) <;> rfl
@[simp] theorem advanceTx_handed : (s.advanceTx).handed = s.handed := by unfold State.advanceTx; (repeat' split) <;> rfl
@[simp] theorem advanceTx_datum : (s.advanceTx).datum = s.datum := by unfold State.advanceTx; (repeat' split) <;> rfl
@[simp] theorem advanceTx_tick : (s.advanceTx).tick = s.tick := by unfold State.advanceTx; (repeat' split) <;> rfl

/-! ### advanceRx -/

@[simp] theorem advanceRx_txf : (s.advanceRx).txf = s.txf := by unfold State.advanceRx; split <;> rfl
@[simp] theorem advanceRx_txfWritten : (s.advanceRx).txfWritten = s.txfWritten := by unfold State.advanceRx; split <;> rfl
@[simp] theorem advanceRx_txPhase : (s.advanceRx).txPhase = s.txPhase := by unfold State.advanceRx; split <;> rfl
@[simp] theorem advanceRx_txRep : (s.advanceRx).txRep = s.txRep := by unfold State.advanceRx; split <;> rfl
@[simp] theorem advanceRx_txByte : (s.advanceRx).txByte = s.txByte := by unfold State.advanceRx; split <;> rfl
@[simp] theorem advanceRx_txBit : (s.advanceRx).txBit = s.txBit := by unfold State.advanceRx; split <;> rfl
@[simp] theorem advanceRx_rxf : (s.advanceRx).rxf = s.rxf := by unfold State.advanceRx; split <;> rfl
@[simp] theorem advanceRx_rxfWritten : (s.advanceRx).rxfWritten = s.rxfWritten := by unfold State.advanceRx; split <;> rfl
@[simp] theorem advanceRx_rxCur : (s.advanceRx).rxCur = s.rxCur := by unfold State.advanceRx; split <;> rfl
@[simp] theorem advanceRx_rxStatus : (s.advanceRx).rxStatus = s.rxStatus := by unfold State.advanceRx; split <;> rfl
@[simp] theorem advanceRx_rxErrpos : (s.advanceRx).rxErrpos = s.rxErrpos := by unfold State.advanceRx; split <;> rfl
@[simp] theorem advanceRx_tol : (s.advanceRx).tol = s.tol := by unfold State.advanceRx; split <;> rfl
@[simp] theorem advanceRx_cmd : (s.advanceRx).cmd = s.cmd := by unfold State.advanceRx; split <;> rfl
@[simp] theorem advanceRx_txFrame : (s.advanceRx).txFrame = s.txFrame := by unfold State.advanceRx; split <;> rfl
@[simp] theorem advanceRx_capPort : (s.advanceRx).capPort = s.capPort := by unfold State.advanceRx; split <;> rfl
@[simp] theorem advanceRx_cap : (s.advanceRx).cap = s.cap := by unfold State.advanceRx; split <;> rfl
@[simp] theorem advanceRx_txOut : (s.advanceRx).txOut = s.txOut := by unfold State.advanceRx; split <;> rfl
@[simp] theorem advanceRx_handed : (s.advanceRx).handed = s.handed := by unfold State.advanceRx; split <;> rfl
@[simp] theorem advanceRx_datum : (s.advanceRx).datum = s.datum := by unfold State.advanceRx; split <;> rfl
@[simp] theorem advanceRx_tick : (s.advanceRx).tick = s.tick := by unfold State.advanceRx; split <;> rfl

end Sys2Proof.Machine
end

