-- ==== Sys2Proof/Laws/PerInstr.lean ====
section
/-! SUPPORT. The per-instruction family `CodeSpace`: the code word of each row of the opcode table lies in the space the
table names for it (R50, R52, R25, R14, R15). -/

namespace Sys2Proof.Laws.CodeSpace

/-- The code spaces of the opcode table's "space" column. -/
inductive Space where
  | symbolAlphabet
  | frameInteger
  | cmdPort
  | txPhaseRegister
  | rxPhaseRegister
  deriving DecidableEq, Repr

/-- The space a code word is of. -/
def spaceOf : CodeWord → Space
  | .item _ _ => .symbolAlphabet
  | .frame _ => .frameInteger
  | .cmd _ => .cmdPort
  | .txPhase _ => .txPhaseRegister
  | .rxPhase _ => .rxPhaseRegister

/-- The space the opcode table names for a row. -/
def rowSpace : Instr → Space
  | .symH | .sym0 | .sym1 | .symG | .symF => .symbolAlphabet
  | .frame18 _ _ _ _ _ _ _ _ => .frameInteger
  | .txSend | .rxDecode | .cmdNone | .cmdRefused => .cmdPort
  | .txCarrier | .txHdr | .txBit | .txGap | .txFoot | .txPerform | .txIdle => .txPhaseRegister
  | .rxHdr | .rxBit | .rxChk | .rxDone | .rxIdle => .rxPhaseRegister

/-- The instruction's code word lies in the space of its row. -/
def Statement (i : Instr) : Prop := spaceOf (encode i) = rowSpace i

theorem symH : Statement .symH := rfl
theorem sym0 : Statement .sym0 := rfl
theorem sym1 : Statement .sym1 := rfl
theorem symG : Statement .symG := rfl
theorem symF : Statement .symF := rfl
theorem frame18 (p m t v f : Byte) (c : BitVec 24) (x : BitVec 16) (k : Byte) :
    Statement (.frame18 p m t v f c x k) := rfl
theorem txSend : Statement .txSend := rfl
theorem rxDecode : Statement .rxDecode := rfl
theorem cmdNone : Statement .cmdNone := rfl
theorem cmdRefused : Statement .cmdRefused := rfl
theorem txCarrier : Statement .txCarrier := rfl
theorem txHdr : Statement .txHdr := rfl
theorem txBit : Statement .txBit := rfl
theorem txGap : Statement .txGap := rfl
theorem txFoot : Statement .txFoot := rfl
theorem txPerform : Statement .txPerform := rfl
theorem rxHdr : Statement .rxHdr := rfl
theorem rxBit : Statement .rxBit := rfl
theorem rxChk : Statement .rxChk := rfl
theorem rxDone : Statement .rxDone := rfl
theorem txIdle : Statement .txIdle := rfl
theorem rxIdle : Statement .rxIdle := rfl

end Sys2Proof.Laws.CodeSpace
end

