-- ==== Sys2Proof/Tests/Slice0.lean ====
section
/-! SUPPORT. Small tests against the spec's own figures (95_test_vectors.md and the encoding tables), the smoke test of
WellFormed, and for each statement of Obligations.lean that has hypotheses a concrete state or operand that meets them. -/

open Sys2Proof Sys2Proof.Machine

namespace Sys2Proof.Tests

/-! ### Material -/

/-- The reference frame F0 of 95_test_vectors.md. -/
def f0 : Frame :=
  #v[0x23, 0xCB, 0x26, 0x01, 0x00, 0x20, 0x08, 0x07, 0x30, 0x5A, 0x00, 0x00, 0x00, 0x00, 0x00, 0x00, 0x00, 0xCE]

/-- A serializer in a position of R77, sending F0. -/
def tx (ph : TxPhase) (r : Fin 2) (i : Fin 18) (j : Fin 8) : State :=
  { State.reset with txf := f0, txfWritten := true, txPhase := ph, txRep := r, txByte := i, txBit := j }

/-- A deserializer in a position of R95 with a capture. -/
def rx (ph : RxPhase) (i : Fin 18) (j : Fin 8) (c : Nat) (cap : List Event) : State :=
  { State.reset with
    rxPhase := ph, rxByte := i, rxBit := j, rxCur := c, cap := cap, rxf := f0, rxfWritten := BitVec.allOnes 18 }

/-- A deserializer that has decoded F0 with success from one repetition of it. -/
def decoded : State :=
  { State.reset with
    cap := repetition f0, rxf := f0, rxfWritten := BitVec.allOnes 18, rxStatus := .ok, handed := [f0] }

/-- What a next state shows of itself; none for a stop. -/
def look {α : Type} (f : State → α) : Host.Outcome State Fault Refusal → Option α
  | .next s => some (f s)
  | _ => none

/-! ### WellFormed -/

/-- R58: "`RX.DONE` has no phase code of its own". -/
theorem test_rxDone_is_not_well_formed : Instr.wellFormed .rxDone = false := by decide

theorem test_frame_is_well_formed : Instr.wellFormed (.frame18 1 2 3 4 5 6 7 8) = true := by decide

/-! ### Decoding: words written out from the encoding tables -/

theorem test_decode_cmd_none : decode (.cmd 0b00) = .ok .cmdNone := by decide
theorem test_decode_tx_send : decode (.cmd 0b01) = .ok .txSend := by decide
theorem test_decode_rx_decode : decode (.cmd 0b10) = .ok .rxDecode := by decide
theorem test_decode_cmd_refused : decode (.cmd 0b11) = .ok .cmdRefused := by decide
theorem test_decode_tx_idle : decode (.txPhase 0b000) = .ok .txIdle := by decide
theorem test_decode_tx_carrier : decode (.txPhase 0b001) = .ok .txCarrier := by decide
theorem test_decode_tx_hdr : decode (.txPhase 0b010) = .ok .txHdr := by decide
theorem test_decode_tx_bit : decode (.txPhase 0b011) = .ok .txBit := by decide
theorem test_decode_tx_gap : decode (.txPhase 0b100) = .ok .txGap := by decide
theorem test_decode_tx_foot : decode (.txPhase 0b101) = .ok .txFoot := by decide
theorem test_decode_tx_perform : decode (.txPhase 0b110) = .ok .txPerform := by decide
theorem test_decode_tx_unused : decode (.txPhase 0b111) = .error .unusedTxPhase := by decide
theorem test_decode_rx_idle : decode (.rxPhase 0b00) = .ok .rxIdle := by decide
theorem test_decode_rx_hdr : decode (.rxPhase 0b01) = .ok .rxHdr := by decide
theorem test_decode_rx_bit : decode (.rxPhase 0b10) = .ok .rxBit := by decide
theorem test_decode_rx_chk : decode (.rxPhase 0b11) = .ok .rxChk := by decide
theorem test_decode_sym_h : decode (.item 3500 (some 1700)) = .ok .symH := by decide
theorem test_decode_sym_0 : decode (.item 430 (some 390)) = .ok .sym0 := by decide
theorem test_decode_sym_1 : decode (.item 430 (some 1250)) = .ok .sym1 := by decide
theorem test_decode_sym_g : decode (.item 430 (some 17500)) = .ok .symG := by decide
theorem test_decode_sym_f : decode (.item 430 none) = .ok .symF := by decide
theorem test_decode_no_symbol : decode (.item 3500 none) = .error .noSymbol := by decide

/-- R52: each payload field of P1's frame integer at its own bytes. -/
theorem test_decode_frame :
    decode (.frame 0xCE000000000000005A30070820000126CB23) = .ok (.frame18 0x20 0x08 0x07 0x30 0x5A 0 0 0xCE) := by
  decide

/-- R52: `c` is bytes 10 to 12 and `x` bytes 14 and 15. -/
theorem test_decode_frame_wide_fields :
    decode (.frame 0x7700665500443322000000000000_0126CB23) =
      .ok (.frame18 0 0 0 0 0 0x443322 0x6655 0x77) := by decide

/-- R57: a wrong byte 13 is refused. -/
theorem test_decode_frame_wrong_byte13 :
    decode (.frame 0xCE00000001000000_5A30070820000126CB23) = .error .fixedBytesWrong := by decide

theorem test_table_word_cmd : decodeTableWord 8 1 = some .txSend := by decide
theorem test_table_word_phase : decodeTableWord 8 5 = some .txFoot := by decide
theorem test_table_word_unused : decodeTableWord 8 7 = none := by decide

theorem test_placed_word_runs :
    look (·.txPhase) (step (State.reset.withFetchWord 8 1)) = some .carrier ∧
      look (·.txOut) (step (State.reset.withFetchWord 8 6)) = some [.perform] := by decide

/-! ### The meanings, on the spec's own figures -/

/-- TX1: byte 0x23 goes out as `11000100`, so bit 5 is a 1 and bit 6 a 0. -/
theorem test_tx_bit_space :
    look (·.train) (exec .txBit (tx .bit 0 0 5)) = some [.mark 430, .space 1250] ∧
      look (·.train) (exec .txBit (tx .bit 0 0 6)) = some [.mark 430, .space 390] := by decide

/-- R77: the three successors at the end of a byte and of a repetition. -/
theorem test_tx_bit_successors :
    look (fun s => (s.txPhase, s.txByte, s.txBit)) (exec .txBit (tx .bit 1 3 7)) = some (.bit, 4, 0) ∧
      look (fun s => (s.txPhase, s.txRep)) (exec .txBit (tx .bit 0 17 7)) = some (.gap, 0) ∧
      look (fun s => (s.txPhase, s.txRep)) (exec .txBit (tx .bit 1 17 7)) = some (.foot, 1) := by decide

/-- R74: `M430 S17500`, then the header of repetition 1. -/
theorem test_tx_gap :
    look (fun s => (s.train, s.txPhase, s.txRep)) (exec .txGap (tx .gap 0 0 0)) =
      some ([.mark 430, .space 17500], .hdr, 1) := by decide

/-- R91's example: `M3400 S1750` passes; R142: a lone mark does not. -/
theorem test_rx_hdr :
    look (fun s => (s.rxPhase, s.rxCur)) (exec .rxHdr (rx .hdr 0 0 0 [.mark 3400, .space 1750])) = some (.bit, 2) ∧
      look (fun s => (s.rxStatus, s.rxErrpos)) (exec .rxHdr (rx .hdr 0 0 0 [.mark 3500])) =
        some (.headerMismatch, 0) := by decide

/-- R92's example: at byte 0, bit 2, the events `M430 S800` raise position 2. -/
theorem test_rx_bit_raises :
    look (fun s => (s.rxStatus, s.rxErrpos, s.rxPhase)) (exec .rxBit (rx .bit 0 2 0 [.mark 430, .space 800])) =
      some (.bitTimingMismatch, 2, .idle) := by decide

/-- R92: bit 0 clears byte 9 (0x5A) and a one-space sets its bit 0. -/
theorem test_rx_bit_begins_byte :
    look (fun s => (s.rxf[9], s.rxBit, s.rxCur)) (exec .rxBit (rx .bit 9 0 0 [.mark 430, .space 1250])) =
      some (0x01, 1, 2) := by decide

/-- RX5: byte 2 = 0x27 raises position 2; byte 9 is not compared. -/
theorem test_rx_chk :
    look (fun s => (s.rxStatus, s.rxErrpos))
        (exec .rxChk { rx .chk 2 0 50 [] with rxf := f0.set 2 0x27 }) = some (.fixedByteMismatch, 2) ∧
      look (fun s => (s.rxPhase, s.rxByte)) (exec .rxChk (rx .chk 9 0 162 [])) = some (.bit, 10) := by decide

/-- R94: the last check hands F0 over. -/
theorem test_rx_done :
    look (fun s => (s.rxStatus, s.handed, s.rxPhase, s.rxCur)) (exec .rxChk (rx .chk 17 0 290 [])) =
      some (.ok, [f0], .idle, 0) := by decide

/-- R103: the frame of a decode that succeeded can be read, and no other. -/
theorem test_consumer_read :
    decoded.consumerRead 9 = .ok 0x5A ∧ (rx .bit 9 0 0 []).consumerRead 9 = .error .rxFrameNotValid := by decide

/-- R37's table: the edges of the zero-space window. -/
theorem test_tolerance_edges :
    accepts (.percent 25) 390 291 = false ∧ accepts (.percent 25) 390 292 = true ∧
      accepts (.percent 25) 390 487 = true ∧ accepts (.percent 25) 390 488 = false := by decide

/-! ### Witnesses: each shows that a statement's hypotheses can be met -/

theorem test_witness_decodeOfEncode : Instr.wellFormed .rxChk = true := by decide
theorem test_witness_encodeOfDecode : decode (.frame 0x126CB23) = .ok (.frame18 0 0 0 0 0 0 0 0) := by decide
theorem test_witness_idleExecutesNothing :
    NothingPending State.reset ∧ State.reset.txPhase = .idle ∧ State.reset.rxPhase = .idle := ⟨⟨rfl, rfl⟩, rfl, rfl⟩
theorem test_witness_resetAbandonsOperations : State.reset.txPhase = .idle := rfl

/-- A state with both halves busy. -/
def busy : State := { tx .bit 0 0 0 with rxPhase := .hdr }

theorem test_witness_stepRuns_idle :
    decode (nextWord (tx .hdr 0 0 0)) = .ok .txHdr ∧ (tx .hdr 0 0 0).rxPhase = .idle := by decide
theorem test_witness_stepRuns_busy :
    decode (nextWord { busy with cmd := 1 }) = .ok .txSend ∧ busy.txPhase ≠ .idle ∧ busy.rxPhase ≠ .idle := by decide
theorem test_witness_stepRuns_refuses :
    decode (nextWord { busy with datum := some (.item 1 none) }) = .error .noSymbol := by decide
theorem test_witness_selection :
    busy.datum = none ∧ ({ busy with cmd := 2 }).cmd ≠ 0 ∧ (tx .foot 1 0 0).cmd = 0 ∧ (tx .foot 1 0 0).rxPhase = .idle ∧
      (rx .chk 0 0 18 []).cmd = 0 ∧ (rx .chk 0 0 18 []).txPhase = .idle := by decide
theorem test_witness_busyHalvesInterleave :
    NothingPending busy ∧ busy.txPhase ≠ .idle ∧ busy.rxPhase ≠ .idle := ⟨⟨rfl, rfl⟩, by decide, by decide⟩
theorem test_witness_placedTableWordRuns :
    State.reset.txPhase = .idle ∧ decodeTableWord 144 0x126CB23 = some (.frame18 0 0 0 0 0 0 0 0) := by decide
theorem test_witness_commandPortTable :
    State.reset.txPhase = .idle ∧ State.reset.rxPhase = .idle ∧ busy.txPhase ≠ .idle ∧ busy.rxPhase ≠ .idle := by decide
/-- R73: a bit of `TXF` is sent whether or not a send has written it. -/
theorem test_tx_bit_always_runs :
    look (·.txBit) (exec .txBit { State.reset with txPhase := .bit }) = some 1 := by decide
theorem test_witness_statusCodes : (errorPos (.bitTimingMismatch 143)).toNat = 143 ∧ 143 < 256 := by decide
theorem test_witness_query :
    (rx .hdr 0 0 0 [.mark 3500, .space 1700]).expectItem 3500 1700 =
      some (rx .hdr 0 0 2 [.mark 3500, .space 1700]) ∧
      (rx .hdr 0 0 0 [.mark 3500, .mark 1700]).expectItem 3500 1700 = none := ⟨rfl, rfl⟩
theorem test_witness_rxHdr :
    accepts (rx .hdr 0 0 0 []).tol 3500 2625 = true ∧ accepts (rx .hdr 0 0 0 []).tol 1700 2125 = true ∧
      accepts (rx .hdr 0 0 0 []).tol 3500 2624 = false ∧ ([.mark 3500] : List Event).length ≤ 0 + 1 := by decide
theorem test_witness_rxBit :
    itemMatches (.percent 25) [.mark 322, .space 937] 0 430 1250 = true ∧
      itemMatches (.percent 25) [.mark 537, .space 487] 0 430 1250 = false ∧
      itemMatches (.percent 25) [.mark 537, .space 487] 0 430 390 = true ∧
      itemMatches (.percent 25) [.mark 537, .space 488] 0 430 390 = false := by decide
theorem test_witness_rxChk :
    fixedAt (rx .chk 16 0 0 []).rxByte.val = some 0 ∧ fixedAt 5 = none ∧ fixedAt 17 = none ∧
      fixedAt 0 = some (rx .chk 0 0 18 []).rxf[0] := by decide
theorem test_witness_rxChk_mismatch :
    ((rx .chk 16 0 0 []).rxByte.val, 0x00#8) ∈
        [(0, 0x23#8), (1, 0xCB#8), (2, 0x26#8), (3, 0x01#8), (4, 0x00#8), (13, 0x00#8), (16, 0x00#8)] ∧
      ({ rx .chk 16 0 0 [] with rxf := f0.set 16 0x80 }).rxf[16] ≠ 0x00 := by decide
/-- R94: a hand-over from reset runs; what it hands over is free. -/
theorem test_rx_done_always_runs :
    look (fun s => (s.rxStatus, s.handed.length)) (exec .rxDone State.reset) = some (.ok, 1) := by decide
theorem test_witness_consumer : decoded.rxStatus = .ok ∧ State.reset.rxStatus ≠ .ok := by decide

/-- For the statements over all instructions: a next state of a micro-operation of each half, of a send and of a decode. -/
theorem test_witness_next :
    (look (fun _ => ()) (exec .txHdr busy)).isSome = true ∧ Instr.txHdr ∈ txMicroOps ∧
      (look (fun _ => ()) (exec .rxHdr busy)).isSome = true ∧ Instr.rxHdr ∈ rxMicroOps ∧
      (look (fun _ => ()) (exec .txSend State.reset)).isSome = true ∧
      (look (fun _ => ()) (exec .rxDecode State.reset)).isSome = true ∧
      (look (fun _ => ()) (exec .rxBit (rx .bit 0 0 0 []))).isSome = true := by decide
theorem test_witness_failure :
    look (fun t => (t.rxPhase, decide (t.rxStatus = .ok))) (exec .rxBit (rx .bit 0 0 0 [])) = some (.idle, false) ∧
      (rx .bit 0 0 0 []).rxPhase ≠ .idle := by decide
theorem test_witness_serializerNeverFails : Instr.txBit ∈ txMicroOps ∧ State.reset.txPhase = .idle := by decide
theorem test_witness_moveForward :
    (look (fun _ => ()) (step (tx .gap 0 0 0))).isSome = true ∧ (tx .gap 0 0 0).datum = none ∧
      (tx .gap 0 0 0).cmd = 0 ∧ (tx .gap 0 0 0).rxPhase = .idle ∧ (tx .gap 0 0 0).txPhase ≠ .idle ∧
      (look (fun _ => ()) (step (rx .chk 9 0 162 []))).isSome = true ∧ (rx .chk 9 0 162 []).datum = none ∧
      (rx .chk 9 0 162 []).cmd = 0 ∧ (rx .chk 9 0 162 []).txPhase = .idle ∧
      (rx .chk 9 0 162 []).rxPhase ≠ .idle := by decide

/-- The invariant holds in the serializer's start position, in which the next step answers a next state. -/
theorem test_witness_invariant :
    Inv (tx .carrier 0 0 0) ∧ step (tx .carrier 0 0 0) ≠ .refused .bothStarts ∧ (tx .carrier 0 0 0).cmd = 0 := by
  refine ⟨⟨rfl, ⟨⟨rfl, rfl, rfl⟩, rfl, fun _ => rfl⟩, ⟨rfl, rfl, rfl, rfl⟩, ?_⟩, ?_, rfl⟩
  · intro F h
    cases h
  · intro h
    cases h

theorem test_step_of_witness : look (·.txPhase) (step (tx .carrier 0 0 0)) = some .hdr := by decide

theorem test_decoded_header : itemMatches decoded.tol decoded.cap 0 3500 1700 = true := by decide

set_option maxRecDepth 100000 in
theorem test_decoded_bits :
    ∀ k < 144, readBit decoded.tol decoded.cap (2 + 2 * k) = some (wireBit decoded.rxf k) := by decide

theorem test_fixedBytesRight : FixedBytesRight f0 := by unfold FixedBytesRight; decide

/-- The invariant holds after a success, and the frame can be read. -/
theorem test_witness_readableFrame : Inv decoded ∧ decoded.rxFramePort = .ok (frameInt f0) := by
  refine ⟨⟨rfl, ⟨⟨rfl, rfl, rfl⟩, .inl rfl, fun h => by cases h⟩, ⟨rfl, rfl, rfl, rfl, ⟨?_, ?_⟩, ⟨?_, ?_⟩, rfl⟩, ?_⟩, rfl⟩
  · exact test_decoded_header
  · exact test_decoded_bits
  · decide
  · exact fun m _ => test_fixedBytesRight m
  · intro F h
    rw [List.mem_singleton.mp h]
    exact test_fixedBytesRight

/-- The serializer at its first bit, the carrier and the header sent. -/
def atFirstBit : State :=
  { tx .bit 0 0 0 with txOut := [.carrier 38000, .event (.mark 3500), .event (.space 1700)] }

/-- For RunsNeverFault: the invariant holds where `TX.BIT` comes next. -/
theorem test_witness_inv_bit : Inv atFirstBit ∧ atFirstBit.txPhase = .bit := by
  refine ⟨⟨rfl, ⟨trivial, ?_, fun _ => rfl⟩, ⟨rfl, rfl, rfl, rfl⟩, ?_⟩, rfl⟩
  · show atFirstBit.txOut = _
    decide
  · intro F h
    cases h

/-- The deserializer before the last check, all 144 bits of F0 read. -/
def atLastCheck : State := rx .chk 17 0 290 (repetition f0)

/-- For RunsNeverFault: the invariant holds where the `RX.CHK` of byte 17 comes next. -/
theorem test_witness_inv_chk : Inv atLastCheck ∧ atLastCheck.rxPhase = .chk ∧ atLastCheck.rxByte.val = 17 := by
  refine ⟨⟨rfl, ⟨⟨rfl, rfl, rfl⟩, .inl rfl, fun h => by cases h⟩, ⟨⟨rfl, rfl⟩, rfl, rfl, ⟨?_, ?_⟩, ?_, ?_⟩, ?_⟩, rfl, rfl⟩
  · exact test_decoded_header
  · exact test_decoded_bits
  · show ∀ m : Fin 18, m.val < 17 + 1 → (BitVec.allOnes 18).getLsbD m.val = true
    decide
  · exact fun m _ => test_fixedBytesRight m
  · intro F h
    cases h

theorem test_witness_sendAgrees :
    NothingPending (tx .carrier 0 0 0) ∧ (tx .carrier 0 0 0).rxPhase = .idle ∧ (tx .carrier 0 0 0).txPhase = .carrier ∧
      (tx .carrier 0 0 0).txOut = [] := ⟨⟨rfl, rfl⟩, rfl, rfl, rfl⟩
theorem test_witness_decodeAgrees :
    NothingPending (rx .hdr 0 0 0 []) ∧ (rx .hdr 0 0 0 []).txPhase = .idle ∧ (rx .hdr 0 0 0 []).rxPhase = .hdr ∧
      (rx .hdr 0 0 0 []).rxCur = 0 := ⟨⟨rfl, rfl⟩, rfl, rfl, rfl⟩

theorem test_default_refl : MatchRefl (.percent 25) := by unfold MatchRefl; decide
theorem test_default_sep : MatchSep (.percent 25) := by unfold MatchSep; decide

/-- The test order cannot be seen with the default tolerance (R38). -/
theorem test_default_disj : MatchDisj (.percent 25) := by
  rintro ⟨d, h1, h2⟩
  simp only [accepts, Bool.and_eq_true, decide_eq_true_eq] at h1 h2
  exact absurd (h1.1.trans h2.2) (by decide)

/-- The hypotheses of the loopback statements, at a right frame and at a frame with byte 0 = 0x22 (RX5). -/
theorem test_witness_loopback :
    MatchRefl (.percent 25) ∧ MatchSep (.percent 25) ∧ FixedBytesRight f0 ∧ byteAllowed 0 (f0.set 0 0x22)[0] = false ∧
      (17 : Fin 18).val ∈ [5, 6, 7, 8, 9, 10, 11, 12, 14, 15, 17] :=
  ⟨test_default_refl, test_default_sep, test_fixedBytesRight, by decide, by decide⟩

/-- RX2 and RX6: the three errors of the function on short captures. Also the witness of the last two clauses of
DecodeLooksNoFurther. -/
theorem test_rxDecode_errors :
    rxDecode (.percent 25) [] = .err .headerMismatch ∧
      rxDecode (.percent 25) [.mark 3500, .space 1700] = .err (.bitTimingMismatch 0) ∧
      rxDecode (.percent 25) ((repetition (f0.set 0 0x22)).take 18) = .err (.fixedByteMismatch 0) := by decide

set_option maxRecDepth 100000 in
/-- RX1: one repetition of F0 decodes to F0. It is also the witness of BytesAreAssembledBitByBit, of the last clause of
PayloadIsNeverInspected, and, with equal captures, of the first clause of DecodeLooksNoFurther. -/
theorem test_rxDecode_ok : rxDecode (.percent 25) (repetition f0) = .ok f0 := by decide

set_option maxRecDepth 100000 in
/-- The hypotheses of PayloadIsNeverInspected, at F0 with the checksum byte 0xFF instead of the right 0xCE. -/
theorem test_witness_payload :
    HeaderRight (.percent 25) (repetition (f0.set 17 0xFF)) ∧
      BitsRight (.percent 25) (repetition (f0.set 17 0xFF)) 144 ∧
      [0, 1, 2, 3, 4, 13, 16].map (capturedByte (.percent 25) (repetition (f0.set 17 0xFF))) =
        [0x23, 0xCB, 0x26, 0x01, 0x00, 0x00, 0x00] := by
  unfold HeaderRight BitsRight
  decide

theorem test_witness_shortCaptures :
    HeaderRight (.percent 25) [.mark 3500, .space 1700, .mark 430] ∧ BitsRight (.percent 25) [] 0 ∧
      ChecksRight (.percent 25) [] 0 :=
  ⟨by unfold HeaderRight; decide, fun k h => absurd h (Nat.not_lt_zero k), fun i h => absurd h (Nat.not_lt_zero i)⟩

set_option maxRecDepth 100000 in
/-- The last bit position: 288 events of F0, all right, with bit 143 missing. -/
theorem test_witness_shortCaptures_last :
    ((repetition f0).take 288).length = 2 + 2 * 143 ∧ HeaderRight (.percent 25) ((repetition f0).take 288) ∧
      BitsRight (.percent 25) ((repetition f0).take 288) 143 ∧
      ChecksRight (.percent 25) ((repetition f0).take 288) (143 / 8) := by
  unfold HeaderRight BitsRight ChecksRight
  decide

theorem test_witness_oneSpace :
    itemMatches (.percent 53) [.mark 430, .space 590] 0 430 1250 = true ∧
      itemMatches (.percent 53) [.mark 430, .space 590] 0 430 390 = true := by decide

end Sys2Proof.Tests
end

