-- ==== Sys2Proof/Proofs/Scope.lean ====
section
/-! PROOFS. The statements of 00_scope.md: the frame and the 144-bit port carry the same bits (R6, R24, R30), and the
indices that have an entry in the fixed-byte table (R19). -/

namespace Sys2Proof.Machine

/-! ### The frame integer bit by bit -/

/-- A byte shifted in below an accumulator gives the eight lowest bits. -/
theorem getLsbD_byteBelow_low (acc : BitVec 144) (b : Byte) {j : Nat} (hj : j < 8) :
    ((acc <<< 8) ||| b.setWidth 144).getLsbD j = b.getLsbD j := by
  have hlt : j < 144 := by omega
  simp [hj, hlt]

/-- A byte shifted in below an accumulator moves the accumulator up by eight bits. -/
theorem getLsbD_byteBelow_high (acc : BitVec 144) (b : Byte) {k : Nat} (hk : k + 8 < 144) :
    ((acc <<< 8) ||| b.setWidth 144).getLsbD (k + 8) = acc.getLsbD k := by
  have hlt : k < 144 := by omega
  simp [hk, hlt]

/-- Bytes packed with the first lowest: bit `8i+j` is bit `j` of byte `i`, and 0 past the last byte. -/
theorem getLsbD_foldr_byteBelow (bs : List Byte) {i j : Nat} (hj : j < 8) (hij : 8 * i + j < 144) :
    (bs.foldr (fun b (acc : BitVec 144) => (acc <<< 8) ||| b.setWidth 144) 0).getLsbD (8 * i + j) =
      (bs[i]?.getD 0).getLsbD j := by
  induction bs generalizing i with
  | nil => simp
  | cons b bs ih =>
    rw [List.foldr_cons]
    cases i with
    | zero => simpa using getLsbD_byteBelow_low _ b hj
    | succ i =>
      have hpos : 8 * (i + 1) + j = 8 * i + j + 8 := by omega
      rw [hpos, getLsbD_byteBelow_high _ b (by omega), ih (by omega), List.getElem?_cons_succ]

/-- Bit `8i+j` of the frame integer is bit `j` of byte `i` (R6). -/
theorem getLsbD_frameInt (F : Frame) {i j : Nat} (hi : i < 18) (hj : j < 8) :
    (frameInt F).getLsbD (8 * i + j) = F[i].getLsbD j := by
  rw [frameInt_eq, ← Vector.foldr_toList, getLsbD_foldr_byteBelow _ hj (by omega)]
  have hbyte : F.toList[i]? = some F[i] := by simp [Config.nBytes, hi]
  rw [hbyte, Option.getD_some]

/-- Bit `j` of byte `i` of the frame on a port is bit `8i+j` of the port (R24, R30). -/
theorem getLsbD_frameOfPort (w : BitVec 144) {i j : Nat} (hi : i < 18) (hj : j < 8) :
    (frameOfPort w)[i].getLsbD j = w.getLsbD (8 * i + j) := by
  simp [frameOfPort_eq, hj]

/-- The frame taken from a port shows the port's value again. -/
theorem frameInt_frameOfPort (w : BitVec 144) : frameInt (frameOfPort w) = w := by
  apply BitVec.eq_of_getLsbD_eq
  intro k hk
  have hbyte : k / 8 < 18 := by omega
  have hbit : k % 8 < 8 := Nat.mod_lt k (by decide)
  rw [← Nat.div_add_mod k 8, getLsbD_frameInt _ hbyte hbit, getLsbD_frameOfPort w hbyte hbit]

/-- The frame integer put on a port gives the frame back. -/
theorem frameOfPort_frameInt (F : Frame) : frameOfPort (frameInt F) = F := by
  apply Vector.ext
  intro i hi
  apply BitVec.eq_of_getLsbD_eq
  intro j hj
  rw [getLsbD_frameOfPort _ hi hj, getLsbD_frameInt F hi hj]

/-- Settles O4: both conversions are pinned bit by bit, and the inverses follow by comparing bits. -/
theorem portBitsAreFrameBits : Obligations.PortBitsAreFrameBits :=
  ⟨fun F i j => getLsbD_frameInt F i.isLt j.isLt, frameInt_frameOfPort, frameOfPort_frameInt⟩

/-! ### The fixed-byte table -/

/-- An index has an entry in `FIXED` exactly when it is in `FIXED_POS` (R5, R19). -/
theorem isSome_fixedAt_iff (i : Nat) : (fixedAt i).isSome = true ↔ i ∈ Config.fixedPos := by
  simp only [fixedAt, Config.fixedPos, List.lookup_isSome_iff, List.mem_map, beq_iff_eq, eq_comm (a := i)]

/-- Settles O29: the indices are `FIXED_POS`, and the seven entries are looked up. -/
theorem fixedTableEntries : Obligations.FixedTableEntries :=
  ⟨fun i => by rw [isSome_fixedAt_iff, fixedPos_eq], rfl, rfl, rfl, rfl, rfl, rfl, rfl⟩

end Sys2Proof.Machine
end

