-- ==== Sys2Proof/Proofs/State.lean ====
section
/-! PROOFS. The statements of 10_state.md: the code spaces (R14, R15, R25, R50, R52, R57), reset and the command port, what
each half's micro-operations read and write (R10), what any instruction can do, and the invariant of the whole block. -/

namespace Sys2Proof.Machine

/-! ### Fields of the frame integer -/

/-- From its own place upwards, a field put at bit `lo` of a 144-bit word reads as the field itself (R52). -/
theorem extractLsb'_field_of_le {w : Nat} (b : BitVec w) {lo start len : Nat} (hlo : lo ≤ start)
    (hlen : start + len ≤ 144) :
    (b.setWidth 144 <<< lo).extractLsb' start len = b.extractLsb' (start - lo) len := by
  apply BitVec.eq_of_getLsbD_eq
  intro k hk
  have hin : start + k < 144 := by omega
  have hnot : ¬ start + k < lo := by omega
  have hpos : start + k - lo = start - lo + k := by omega
  simp [hk, hin, hnot, hpos]

/-- Below its place, a field put at bit `lo` of a 144-bit word reads 0 (R52). -/
theorem extractLsb'_field_of_ge {w : Nat} (b : BitVec w) {lo start len : Nat} (hlo : start + len ≤ lo) :
    (b.setWidth 144 <<< lo).extractLsb' start len = 0 := by
  apply BitVec.eq_of_getLsbD_eq
  intro k hk
  have hlt : start + k < lo := by omega
  simp [hlt]

/-- Past its end, a bit vector reads 0. -/
theorem extractLsb'_of_width_le {w : Nat} (b : BitVec w) {start len : Nat} (h : w ≤ start) :
    b.extractLsb' start len = 0 := by
  apply BitVec.eq_of_getLsbD_eq
  intro k hk
  simp [BitVec.getLsbD_of_ge b (start + k) (by omega)]

/-- A part of a part is a part. -/
theorem extractLsb'_extractLsb' {w : Nat} (b : BitVec w) {start len start' len' : Nat} (h : start' + len' ≤ len) :
    (b.extractLsb' start len).extractLsb' start' len' = b.extractLsb' (start + start') len' := by
  apply BitVec.eq_of_getLsbD_eq
  intro k hk
  have hin : start' + k < len := by omega
  simp [hk, hin, Nat.add_assoc]

/-- The match value of R57 as a field of its own: the five lowest bytes, and 0 above them. -/
theorem frameMatch_eq_field : Config.frameMatch = (0x126CB23#40).setWidth 144 <<< 0 := by
  rw [frameMatch_eq]
  decide

/-- Byte `i` of the frame on a port (R24). -/
theorem frameOfPort_getElem (w : BitVec 144) {i : Nat} (hi : i < 18) :
    (frameOfPort w)[i] = w.extractLsb' (8 * i) 8 := by
  simp [frameOfPort_eq]

/-- A port value is determined by the frame it carries (R24, R30). -/
theorem frameOfPort_inj {v w : BitVec 144} : frameOfPort v = frameOfPort w ↔ v = w :=
  ⟨fun h => by rw [← frameInt_frameOfPort v, h, frameInt_frameOfPort], congrArg frameOfPort⟩

section
variable (p m t v f : Byte) (c : BitVec 24) (x : BitVec 16) (k : Byte)

/-- A part of the frame word is the same part of each field, all put together (R52). -/
theorem extractLsb'_frameWord (start len : Nat) :
    (frameWord p m t v f c x k).extractLsb' start len =
      (k.setWidth 144 <<< 136).extractLsb' start len ||| (x.setWidth 144 <<< 112).extractLsb' start len |||
      (c.setWidth 144 <<< 80).extractLsb' start len ||| (f.setWidth 144 <<< 72).extractLsb' start len |||
      (v.setWidth 144 <<< 64).extractLsb' start len ||| (t.setWidth 144 <<< 56).extractLsb' start len |||
      (m.setWidth 144 <<< 48).extractLsb' start len ||| (p.setWidth 144 <<< 40).extractLsb' start len |||
      ((0x126CB23#40).setWidth 144 <<< 0).extractLsb' start len := by
  simp only [frameWord, frameMatch_eq_field, BitVec.extractLsb'_or]

/-- The layout of R52: the bytes of the frame word. -/
theorem frameOfPort_frameWord :
    frameOfPort (frameWord p m t v f c x k) =
      #v[0x23, 0xCB, 0x26, 0x01, 0x00, p, m, t, v, f, c.extractLsb' 0 8, c.extractLsb' 8 8,
        c.extractLsb' 16 8, 0x00, x.extractLsb' 0 8, x.extractLsb' 8 8, 0x00, k] := by
  apply Vector.ext
  intro i hi
  rw [frameOfPort_getElem _ hi, extractLsb'_frameWord]
  interval_cases i <;>
  simp [extractLsb'_field_of_le, extractLsb'_field_of_ge, extractLsb'_of_width_le]

end

/-! ### The fixed bytes -/

/-- The comparison of `RX.CHK` at one byte is the mask and the match of that byte (R57, R93). -/
theorem byteAllowed_iff_mask (i : Fin 18) (b : Byte) :
    byteAllowed i.val b = true ↔
      b &&& Config.frameMask.extractLsb' (8 * i.val) 8 = Config.frameMatch.extractLsb' (8 * i.val) 8 := by
  have hones : b &&& 255#8 = b := BitVec.and_allOnes
  rw [frameMask_eq, frameMatch_eq]
  fin_cases i <;> simp [byteAllowed, fixedAt, Config.fixedTable, List.lookup, hones]

/-- The test of R57 on the port is the comparisons of `RX.CHK` on the frame it carries. -/
theorem frameMatches_iff (w : BitVec 144) : frameMatches w = true ↔ FixedBytesRight (frameOfPort w) := by
  have hbyte (i : Fin 18) : byteAllowed i.val (frameOfPort w)[i.val] = true ↔
      (frameOfPort (w &&& Config.frameMask))[i.val] = (frameOfPort Config.frameMatch)[i.val] := by
    rw [byteAllowed_iff_mask]
    simp only [frameOfPort_getElem _ i.isLt, BitVec.extractLsb'_and]
  rw [frameMatches, beq_iff_eq, ← frameOfPort_inj, Vector.ext_iff]
  exact ⟨fun h i => (hbyte i).mpr (h i i.isLt), fun h i hi => (hbyte ⟨i, hi⟩).mp (h ⟨i, hi⟩)⟩

/-- The seven comparisons written out (R19). -/
theorem fixedBytesRight_iff (F : Frame) :
    FixedBytesRight F ↔
      F[0] = 0x23 ∧ F[1] = 0xCB ∧ F[2] = 0x26 ∧ F[3] = 0x01 ∧ F[4] = 0x00 ∧ F[13] = 0x00 ∧ F[16] = 0x00 := by
  simp [FixedBytesRight, Fin.forall_fin_succ, byteAllowed, fixedAt, Config.fixedTable, List.lookup]

/-- Settles O5: both sides are the comparisons of `RX.CHK` at every byte. -/
theorem maskIsSevenComparisons : Obligations.MaskIsSevenComparisons := by
  intro F
  rw [← fixedBytesRight_iff, ← frameMask_eq, ← frameMatch_eq, ← beq_iff_eq]
  have h := frameMatches_iff (frameInt F)
  rwa [frameOfPort_frameInt] at h

/-- Settles O15: the port word is the frame word, whose bytes are those of R52. -/
theorem frameWordStandsOnThePort : Obligations.FrameWordStandsOnThePort :=
  fun _ p m t v f c x k => ⟨frameWord p m t v f c x k, rfl, frameOfPort_frameWord p m t v f c x k⟩

/-! ### Decoding and encoding -/

/-- A frame word passes the test of R57. -/
theorem frameMatches_frameWord (p m t v f : Byte) (c : BitVec 24) (x : BitVec 16) (k : Byte) :
    frameMatches (frameWord p m t v f c x k) = true := by
  rw [frameMatches_iff, frameOfPort_frameWord, fixedBytesRight_iff]
  simp

/-- Every payload field is read back from its place in the frame word (R52). -/
theorem decodeFrame_frameWord (p m t v f : Byte) (c : BitVec 24) (x : BitVec 16) (k : Byte) :
    decodeFrame (frameWord p m t v f c x k) = .ok (.frame18 p m t v f c x k) := by
  rw [decodeFrame, if_pos (frameMatches_frameWord p m t v f c x k)]
  simp [extractLsb'_frameWord, extractLsb'_field_of_le, extractLsb'_field_of_ge, extractLsb'_of_width_le]

/-- A frame integer with right fixed bytes is the frame word of its own payload fields (R52, R57). -/
theorem frameWord_of_frameMatches {w : BitVec 144} (h : frameMatches w = true) :
    frameWord (w.extractLsb' 40 8) (w.extractLsb' 48 8) (w.extractLsb' 56 8) (w.extractLsb' 64 8)
      (w.extractLsb' 72 8) (w.extractLsb' 80 24) (w.extractLsb' 112 16) (w.extractLsb' 136 8) = w := by
  simp only [frameMatches_iff, fixedBytesRight_iff, frameOfPort_getElem, Nat.reduceMul] at h
  rw [← frameOfPort_inj, frameOfPort_frameWord]
  apply Vector.ext
  intro i hi
  rw [frameOfPort_getElem w hi]
  interval_cases i <;> simp [h, extractLsb'_extractLsb']

/-- Settles O1: by cases on the row; the frame format is the one with fields. -/
theorem decodeOfEncode : Obligations.DecodeOfEncode := by
  intro i hi
  cases i with
  | frame18 p m t v f c x k => exact decodeFrame_frameWord p m t v f c x k
  | rxDone => cases hi
  | _ => rfl

/-- An item that decodes to a symbol has that symbol's nominal durations (R51). -/
theorem encode_of_decodeItem {mark : Nat} {space : Option Nat} {i : Instr} (h : decodeItem mark space = .ok i) :
    encode i = .item mark space := by
  simp only [decodeItem] at h
  split_ifs at h <;> (cases h; simp [encode, *])

/-- A frame integer that decodes is the frame word of the fields read from it. -/
theorem encode_of_decodeFrame {w : BitVec 144} {i : Instr} (h : decodeFrame w = .ok i) : encode i = .frame w := by
  unfold decodeFrame at h
  split at h
  case isTrue hm =>
    cases h
    exact congrArg CodeWord.frame (frameWord_of_frameMatches hm)
  case isFalse => cases h

/-- Every command code is the code of its own row (R25). -/
theorem encode_decodeCmd (c : BitVec 2) : encode (decodeCmd c) = .cmd c := by
  revert c
  decide

/-- Every phase code of the deserializer is the code of its own row (R15). -/
theorem encode_decodeRxPhase (c : BitVec 2) : encode (decodeRxPhase c) = .rxPhase c := by
  revert c
  decide

/-- A phase code of the serializer that decodes is the code of its own row (R14). -/
theorem encode_of_decodeTxPhase {c : BitVec 3} {i : Instr} (h : decodeTxPhase c = .ok i) :
    encode i = .txPhase c := by
  unfold decodeTxPhase at h
  split_ifs at h <;> (cases h; subst c; rfl)

/-- Settles O2: by cases on the code space. -/
theorem encodeOfDecode : Obligations.EncodeOfDecode := by
  intro w i h
  cases w with
  | item mark space => exact encode_of_decodeItem h
  | frame w => exact encode_of_decodeFrame h
  | cmd c =>
    cases h
    exact encode_decodeCmd c
  | txPhase c => exact encode_of_decodeTxPhase h
  | rxPhase c =>
    cases h
    exact encode_decodeRxPhase c

/-- Settles O3: the words are evaluated. -/
theorem tableWordsDecode : Obligations.TableWordsDecode := by
  unfold Obligations.TableWordsDecode
  decide

/-! ### Flags and the consumer's reads -/

/-- `TX_BUSY` is 1 exactly outside the idle phase (R17). -/
theorem txBusy_iff (s : State) : s.txBusy = true ↔ s.txPhase ≠ .idle := by simp [State.txBusy]

/-- The deserializer is busy exactly outside its idle phase (R25). -/
theorem rxBusy_iff (s : State) : s.rxBusy = true ↔ s.rxPhase ≠ .idle := by simp [State.rxBusy]

/-- `RX_FRAME_VALID` is 1 exactly in status `OK` (R16). -/
theorem rxFrameValid_iff (s : State) : s.rxFrameValid = true ↔ s.rxStatus = .ok := by simp [State.rxFrameValid]

@[simp] theorem txBusy_of_idle {s : State} (h : s.txPhase = .idle) : s.txBusy = false := by simp [State.txBusy, h]
@[simp] theorem rxBusy_of_idle {s : State} (h : s.rxPhase = .idle) : s.rxBusy = false := by simp [State.rxBusy, h]

/-- A position below 256 is recorded as it stands (R141). -/
theorem toNat_ofNat_of_lt {p : Nat} (h : p < 256) : (BitVec.ofNat 8 p).toNat = p := by
  rw [BitVec.toNat_ofNat, Nat.mod_eq_of_lt h]

/-- Settles O22: the flags are tests of their registers, and a byte holds every position below 256. -/
theorem statusCodesAndFlags : Obligations.StatusCodesAndFlags :=
  ⟨fun s => ⟨txBusy_iff s, rxFrameValid_iff s⟩, rfl, rfl, rfl, rfl, fun _ => rfl, fun _ => rfl,
    fun _ h => ⟨toNat_ofNat_of_lt h, toNat_ofNat_of_lt h⟩⟩

/-- In status `OK` the consumer reads `RXF` (R103). -/
theorem consumer_reads_of_ok {s : State} (h : s.rxStatus = .ok) :
    s.rxFramePort = .ok (frameInt s.rxf) ∧ ∀ i : Fin 18, s.consumerRead i = .ok s.rxf[i.val] := by
  have hv := (rxFrameValid_iff s).mpr h
  exact ⟨if_pos hv, fun _ => if_pos hv⟩

/-- In every other status the consumer's reads fault (R12, R174). -/
theorem consumer_faults_of_not_ok {s : State} (h : s.rxStatus ≠ .ok) :
    s.rxFramePort = .error .rxFrameNotValid ∧ ∀ i : Fin 18, s.consumerRead i = .error .rxFrameNotValid := by
  have hv := mt (rxFrameValid_iff s).mp h
  exact ⟨if_neg hv, fun _ => if_neg hv⟩

/-- Settles O31: by cases on the status being `OK`. -/
theorem consumerReadsOnlyAfterOk : Obligations.ConsumerReadsOnlyAfterOk :=
  fun _ => ⟨consumer_reads_of_ok, consumer_faults_of_not_ok⟩

/-! ### Reset -/

/-- Settles O6: the registers are read off; the reads fault because the status is `NONE`. -/
theorem resetLeavesTheBlockIdle : Obligations.ResetLeavesTheBlockIdle := by
  obtain ⟨hport, hread⟩ := consumer_faults_of_not_ok (s := State.reset) (by decide)
  exact ⟨rfl, rfl, rfl, rfl, rfl, rfl, rfl, rfl, rfl, rfl, rfl, rfl, rfl, rfl, rfl, hport, hread⟩

/-- Reset empties the train of an idle serializer (R166). -/
theorem resetBlock_train_of_idle {s : State} (h : s.txPhase = .idle) : s.resetBlock.train = [] := by
  have hout : s.resetBlock.txOut = [] := by simp [State.resetBlock, txBusy_of_idle h]
  simp [State.train, hout]

/-- Settles O8: the registers are read off; the reads fault because the status is `NONE`. -/
theorem resetAbandonsOperations : Obligations.ResetAbandonsOperations := by
  intro s
  obtain ⟨hport, hread⟩ := consumer_faults_of_not_ok (s := s.resetBlock) (show RxStatus.none ≠ .ok by decide)
  exact ⟨rfl, rfl, rfl, rfl, rfl, rfl, rfl, rfl, rfl, rfl, rfl, rfl, resetBlock_train_of_idle, rfl, rfl, hport, hread⟩

/-! ### Fetching -/

/-- The micro-operation a serializer phase selects (R14, R58). -/
def TxPhase.microOp : TxPhase → Instr
  | .idle => .txIdle
  | .carrier => .txCarrier
  | .hdr => .txHdr
  | .bit => .txBit
  | .gap => .txGap
  | .foot => .txFoot
  | .perform => .txPerform

/-- The micro-operation a deserializer phase selects (R15, R58). -/
def RxPhase.microOp : RxPhase → Instr
  | .idle => .rxIdle
  | .hdr => .rxHdr
  | .bit => .rxBit
  | .chk => .rxChk

/-- The phase codes decode to the micro-operations their phases select (R14, R58). -/
theorem decode_txPhase_eq_microOp (ph : TxPhase) : decode (.txPhase ph.code) = .ok ph.microOp := by
  cases ph <;> rfl

/-- The phase codes decode to the micro-operations their phases select (R15, R58). -/
theorem decode_rxPhase_eq_microOp (ph : RxPhase) : decode (.rxPhase ph.code) = .ok ph.microOp := by
  cases ph <;> rfl

theorem TxPhase.microOp_mem (ph : TxPhase) : ph.microOp ∈ txMicroOps := by cases ph <;> decide
theorem RxPhase.microOp_mem (ph : RxPhase) : ph.microOp ∈ rxMicroOps := by cases ph <;> decide

section
variable {s : State}

/-- A command on the port is fetched when no placed word waits (R25; log entry 1). -/
theorem fetch_of_cmd (hd : s.datum = none) (hc : s.cmd ≠ 0) : fetch s = decode (.cmd s.cmd) := by
  rw [fetch, nextWord, hd]
  exact congrArg decode (if_pos hc)

/-- With nothing pending and the serializer alone busy, its phase selects the instruction (R14). -/
theorem fetch_of_txBusy (hn : NothingPending s) (ht : s.txPhase ≠ .idle) (hr : s.rxPhase = .idle) :
    fetch s = .ok s.txPhase.microOp := by
  obtain ⟨hd, hc⟩ := hn
  rw [← decode_txPhase_eq_microOp]
  simp [fetch, nextWord, hd, hc, (txBusy_iff s).mpr ht, rxBusy_of_idle hr]

/-- With nothing pending and the deserializer alone busy, its phase selects the instruction (R15). -/
theorem fetch_of_rxBusy (hn : NothingPending s) (ht : s.txPhase = .idle) (hr : s.rxPhase ≠ .idle) :
    fetch s = .ok s.rxPhase.microOp := by
  obtain ⟨hd, hc⟩ := hn
  rw [← decode_rxPhase_eq_microOp]
  simp [fetch, nextWord, hd, hc, (rxBusy_iff s).mpr hr, txBusy_of_idle ht]

/-- With nothing pending and both halves busy, one of the two phases selects the instruction (R10). -/
theorem fetch_of_bothBusy (hn : NothingPending s) (ht : s.txPhase ≠ .idle) (hr : s.rxPhase ≠ .idle) :
    fetch s = .ok s.txPhase.microOp ∨ fetch s = .ok s.rxPhase.microOp := by
  obtain ⟨hd, hc⟩ := hn
  rw [← decode_txPhase_eq_microOp, ← decode_rxPhase_eq_microOp]
  cases hg : Config.grantTx s.tick <;>
    simp [fetch, nextWord, hd, hc, (txBusy_iff s).mpr ht, (rxBusy_iff s).mpr hr, hg]

/-- With nothing pending and both halves idle, `CMD.NONE` is fetched (log entry 23). -/
theorem fetch_of_bothIdle (hn : NothingPending s) (ht : s.txPhase = .idle) (hr : s.rxPhase = .idle) :
    fetch s = .ok .cmdNone := by
  obtain ⟨hd, hc⟩ := hn
  simp [fetch, nextWord, hd, hc, txBusy_of_idle ht, rxBusy_of_idle hr, decode, decodeCmd]

/-- What a step without a placed word can run: a command, or the micro-operation of a phase register (R25, R58). -/
theorem fetch_cases (hd : s.datum = none) :
    (∃ c, fetch s = .ok (decodeCmd c)) ∨ fetch s = .ok s.txPhase.microOp ∨ fetch s = .ok s.rxPhase.microOp := by
  by_cases hc : s.cmd = 0
  · by_cases ht : s.txPhase = .idle <;> by_cases hr : s.rxPhase = .idle
    · exact .inl ⟨0, fetch_of_bothIdle ⟨hd, hc⟩ ht hr⟩
    · exact .inr (.inr (fetch_of_rxBusy ⟨hd, hc⟩ ht hr))
    · exact .inr (.inl (fetch_of_txBusy ⟨hd, hc⟩ ht hr))
    · exact .inr (fetch_of_bothBusy ⟨hd, hc⟩ ht hr)
  · exact .inl ⟨s.cmd, fetch_of_cmd hd hc⟩

/-- A step is the meaning of the instruction it fetches. -/
theorem step_of_fetch {i : Instr} (h : fetch s = .ok i) : step s = exec i (beforeExec s) := by
  simp [step, h]

/-- A word that decodes to nothing is refused by name. -/
theorem step_of_fetch_error {e : DecodeError} (h : fetch s = .error e) : step s = .refused (.noSuchCode e) := by
  simp [step, h]

/-- Nothing is counted where a half is idle. -/
theorem beforeExec_of_idle (h : s.txPhase = .idle ∨ s.rxPhase = .idle) : beforeExec s = s := by
  rcases h with h | h <;> simp [beforeExec, h]

/-- A step with both halves busy is counted (log entry 2). -/
theorem beforeExec_of_busy (ht : s.txPhase ≠ .idle) (hr : s.rxPhase ≠ .idle) :
    beforeExec s = { s with tick := s.tick + 1 } := by
  simp [beforeExec, (txBusy_iff s).mpr ht, (rxBusy_iff s).mpr hr, State.countTick]

end

/-- Settles O9: the step is taken apart into the count and the instruction. -/
theorem stepRunsTheDecodedInstruction : Obligations.StepRunsTheDecodedInstruction := by
  intro s i
  refine ⟨fun h hidle => ?_, fun h ht hr => ?_, fun e h => step_of_fetch_error h⟩
  · rw [step_of_fetch h, beforeExec_of_idle hidle]
  · rw [step_of_fetch h, beforeExec_of_busy ht hr]

/-- Settles O10: by cases on which half is busy. -/
theorem portAndPhasesSelectTheInstruction : Obligations.PortAndPhasesSelectTheInstruction := by
  intro s hd
  refine ⟨fetch_of_cmd hd, fun hc hr => ?_, fun hc ht => ?_⟩
  · by_cases ht : s.txPhase = .idle
    · rw [fetch_of_bothIdle ⟨hd, hc⟩ ht hr, ht]
    · rw [fetch_of_txBusy ⟨hd, hc⟩ ht hr]
      cases hph : s.txPhase with
      | idle => exact absurd hph ht
      | _ => rfl
  · by_cases hr : s.rxPhase = .idle
    · rw [fetch_of_bothIdle ⟨hd, hc⟩ ht hr, hr]
    · rw [fetch_of_rxBusy ⟨hd, hc⟩ ht hr]
      cases hph : s.rxPhase with
      | idle => exact absurd hph hr
      | _ => rfl

/-- Settles O11: the free choice is one of the two phases. -/
theorem busyHalvesInterleave : Obligations.BusyHalvesInterleave := by
  intro s hn ht hr
  rcases fetch_of_bothBusy hn ht hr with h | h
  · left
    rw [h]
    cases s.txPhase <;> rfl
  · right
    rw [h]
    cases s.rxPhase <;> rfl

/-! ### The command port -/

/-- A send is accepted by an idle serializer (R25). -/
theorem exec_txSend_of_idle {s : State} (h : s.txPhase = .idle) : exec .txSend s = .next s.startTx := by
  simp [exec, execTxSend, h]

/-- A send to a busy serializer is refused (R25, U5). -/
theorem exec_txSend_of_busy {s : State} (h : s.txPhase ≠ .idle) : exec .txSend s = .refused .txNotIdle := by
  simp [exec, execTxSend, (txBusy_iff s).mpr h]

/-- A decode is accepted by an idle deserializer (R25). -/
theorem exec_rxDecode_of_idle {s : State} (h : s.rxPhase = .idle) : exec .rxDecode s = .next s.startRx := by
  simp [exec, execRxDecode, h]

/-- A decode given to a busy deserializer is refused (R25, U5). -/
theorem exec_rxDecode_of_busy {s : State} (h : s.rxPhase ≠ .idle) : exec .rxDecode s = .refused .rxNotIdle := by
  simp [exec, execRxDecode, (rxBusy_iff s).mpr h]

/-- A send that is accepted finds the serializer idle and starts it. -/
theorem exec_txSend_eq_next {s t : State} :
    exec .txSend s = .next t ↔ s.txPhase = .idle ∧ t = s.startTx := by
  by_cases h : s.txPhase = .idle
  · simp [exec_txSend_of_idle h, h, eq_comm]
  · simp [exec_txSend_of_busy h, h]

/-- A decode that is accepted finds the deserializer idle and starts it. -/
theorem exec_rxDecode_eq_next {s t : State} :
    exec .rxDecode s = .next t ↔ s.rxPhase = .idle ∧ t = s.startRx := by
  by_cases h : s.rxPhase = .idle
  · simp [exec_rxDecode_of_idle h, h, eq_comm]
  · simp [exec_rxDecode_of_busy h, h]

/-- What the start of a send writes (R25; log entries 3 and 5). -/
theorem startTx_eq (s : State) :
    s.startTx = { s with
      txf := frameOfPort s.txFrame, txfWritten := true, txOut := [], cmd := 0,
      txPhase := .carrier, txRep := 0, txByte := 0, txBit := 0 } := by
  simp only [State.startTx, State.loadTxf, State.clearTrain, State.takeCmd, State.setTxPc]

/-- What the start of a decode writes (R25; log entries 3 and 4). -/
theorem startRx_eq (s : State) :
    s.startRx = { s with
      cap := s.capPort, cmd := 0, rxStatus := .none, rxErrpos := 0,
      rxPhase := .hdr, rxByte := 0, rxBit := 0, rxCur := 0 } := by
  simp only [State.startRx, State.latchCap, State.takeCmd, State.setRxResult, State.setRxPc]

/-- Settles O13: the codes are evaluated; each start splits on its half being idle. -/
theorem commandPortTable : Obligations.CommandPortTable := by
  refine ⟨rfl, rfl, rfl, rfl, fun s =>
    ⟨rfl, fun h => ?_, exec_txSend_of_busy, fun h => ?_, exec_rxDecode_of_busy, rfl⟩⟩
  · rw [exec_txSend_of_idle h, startTx_eq]
  · rw [exec_rxDecode_of_idle h, startRx_eq]

/-! ### The serializer's straight-line micro-operations -/

/-- Settles O16: the strobe and the position, read off. -/
theorem txCarrierSetsTheCarrier : Obligations.TxCarrierSetsTheCarrier := fun _ => rfl

/-- Settles O17: the header's two events and the position, read off. -/
theorem txHdrEmitsTheHeader : Obligations.TxHdrEmitsTheHeader := fun _ => rfl

/-- Settles O19: the gap's two events and the position, read off. -/
theorem txGapEmitsTheGap : Obligations.TxGapEmitsTheGap := fun _ => rfl

/-- Settles O20: the footer's one event and the position, read off. -/
theorem txFootEmitsTheClosingMark : Obligations.TxFootEmitsTheClosingMark := fun _ => rfl

/-! ### What each half's micro-operations read and write -/

/-- `s` with every register that a micro-operation of the serializer writes taken from `t` (R58). -/
def State.withTxOf (s t : State) : State :=
  { s with txPhase := t.txPhase, txRep := t.txRep, txByte := t.txByte, txBit := t.txBit, txOut := t.txOut }

/-- `s` with every register that a micro-operation of the deserializer writes taken from `t` (R58). -/
def State.withRxOf (s t : State) : State :=
  { s with
    rxf := t.rxf, rxfWritten := t.rxfWritten, rxPhase := t.rxPhase, rxByte := t.rxByte, rxBit := t.rxBit,
    rxCur := t.rxCur, rxStatus := t.rxStatus, rxErrpos := t.rxErrpos, handed := t.handed }

section
variable {r s : State}

/-! Each shared operation does the same beside another half: it commutes with taking over what the half wrote. -/

theorem advanceTx_withTxOf : (r.withTxOf s).advanceTx = r.withTxOf s.advanceTx := by
  simp only [State.advanceTx, apply_ite r.withTxOf]
  rfl

theorem beginByte_withRxOf : (r.withRxOf s).beginByte = r.withRxOf s.beginByte := by
  simp only [State.beginByte, apply_ite r.withRxOf]
  rfl

theorem advanceRx_withRxOf : (r.withRxOf s).advanceRx = r.withRxOf s.advanceRx := by
  simp only [State.advanceRx, apply_ite r.withRxOf]
  rfl

theorem passCheck_withRxOf : (r.withRxOf s).passCheck = r.withRxOf s.passCheck := by
  simp only [State.passCheck, apply_ite r.withRxOf]
  rfl

theorem expectItem_withRxOf (ht : r.tol = s.tol) (hc : r.cap = s.cap) (m sp : Nat) :
    (r.withRxOf s).expectItem m sp = (s.expectItem m sp).map r.withRxOf := by
  have ht' : (r.withRxOf s).tol = s.tol := ht
  have hc' : (r.withRxOf s).cap = s.cap := hc
  simp only [State.expectItem, ht', hc', apply_ite (Option.map r.withRxOf)]
  rfl

/-- Of the registers it does not write, a micro-operation of the serializer reads `TXF` alone (R73). -/
theorem exec_withTxOf {i : Instr} (hi : i ∈ txMicroOps) (hF : r.txf = s.txf) :
    exec i (r.withTxOf s) = mapNext r.withTxOf (exec i s) := by
  cases i with
  | txBit =>
    have hbit : (r.withTxOf s).readTxfBit s.txByte s.txBit = s.readTxfBit s.txByte s.txBit :=
      congrArg (fun F : Frame => byteBit F[s.txByte.val] s.txBit.val) hF
    show Host.Outcome.next _ = Host.Outcome.next _
    rw [← advanceTx_withTxOf, ← hbit]
    rfl
  | txIdle | txCarrier | txHdr | txGap | txFoot | txPerform => rfl
  | _ => simp [txMicroOps] at hi

theorem execRxHdr_withRxOf (ht : r.tol = s.tol) (hc : r.cap = s.cap) :
    execRxHdr (r.withRxOf s) = mapNext r.withRxOf (execRxHdr s) := by
  unfold execRxHdr
  rw [expectItem_withRxOf ht hc]
  cases s.expectItem Config.timing.tHdrMark Config.timing.tHdrSpace <;> rfl

theorem execRxBit_withRxOf (ht : r.tol = s.tol) (hc : r.cap = s.cap) :
    execRxBit (r.withRxOf s) = mapNext r.withRxOf (execRxBit s) := by
  have ht' : r.tol = s.beginByte.tol := by rw [ht, beginByte_tol]
  have hc' : r.cap = s.beginByte.cap := by rw [hc, beginByte_cap]
  simp only [execRxBit, beginByte_withRxOf, expectItem_withRxOf ht' hc']
  cases s.beginByte.expectItem Config.timing.tBitMark Config.timing.tOneSpace with
  | some s1 => exact congrArg Host.Outcome.next (advanceRx_withRxOf (s := s1.setRxfBit s.rxByte s.rxBit))
  | none =>
    cases s.beginByte.expectItem Config.timing.tBitMark Config.timing.tZeroSpace with
    | some s2 => exact congrArg Host.Outcome.next advanceRx_withRxOf
    | none => rfl

theorem execRxChk_withRxOf : execRxChk (r.withRxOf s) = mapNext r.withRxOf (execRxChk s) := by
  simp only [execRxChk, passCheck_withRxOf, apply_ite (mapNext r.withRxOf)]
  rfl

/-- Of the registers it does not write, a micro-operation of the deserializer reads the tolerance and the capture alone
(R35, R36). -/
theorem exec_withRxOf {i : Instr} (hi : i ∈ rxMicroOps) (ht : r.tol = s.tol) (hc : r.cap = s.cap) :
    exec i (r.withRxOf s) = mapNext r.withRxOf (exec i s) := by
  cases i with
  | rxHdr => exact execRxHdr_withRxOf ht hc
  | rxBit => exact execRxBit_withRxOf ht hc
  | rxChk => exact execRxChk_withRxOf
  | rxIdle | rxDone => rfl
  | _ => simp [rxMicroOps] at hi

end

/-- A micro-operation of the serializer always answers a next state (R78). -/
theorem exec_txMicroOp_runs {i : Instr} (hi : i ∈ txMicroOps) (s : State) : ∃ t, exec i s = .next t := by
  cases i with
  | txIdle | txCarrier | txHdr | txBit | txGap | txFoot | txPerform => exact ⟨_, rfl⟩
  | _ => simp [txMicroOps] at hi

/-- A micro-operation of the deserializer always answers a next state: an error is one (R149). -/
theorem exec_rxMicroOp_runs {i : Instr} (hi : i ∈ rxMicroOps) (s : State) : ∃ t, exec i s = .next t := by
  cases i with
  | rxHdr =>
    show ∃ t, execRxHdr s = .next t
    unfold execRxHdr
    split <;> exact ⟨_, rfl⟩
  | rxBit => obtain ⟨-, h⟩ | ⟨-, -, h⟩ | ⟨-, -, h⟩ := execRxBit_cases s <;> exact ⟨_, h⟩
  | rxChk => obtain ⟨-, -, -, h⟩ | ⟨-, h⟩ := execRxChk_cases s <;> exact ⟨_, h⟩
  | rxIdle | rxDone => exact ⟨_, rfl⟩
  | _ => simp [rxMicroOps] at hi

/-- What a micro-operation of the serializer leaves unchanged: everything but what it writes (R10). -/
theorem eq_withTxOf {i : Instr} (hi : i ∈ txMicroOps) {s t : State} (h : exec i s = .next t) : t = s.withTxOf t := by
  have hself := exec_withTxOf hi (r := s) (s := s) rfl
  rw [show s.withTxOf s = s from rfl, h] at hself
  exact Host.Outcome.next.inj hself

/-- What a micro-operation of the deserializer leaves unchanged: everything but what it writes (R10). -/
theorem eq_withRxOf {i : Instr} (hi : i ∈ rxMicroOps) {s t : State} (h : exec i s = .next t) : t = s.withRxOf t := by
  have hself := exec_withRxOf hi (r := s) (s := s) rfl rfl
  rw [show s.withRxOf s = s from rfl, h] at hself
  exact Host.Outcome.next.inj hself

/-- Settles O32: a next state differs from the state before in what the half writes. -/
theorem halvesShareNoState : Obligations.HalvesShareNoState := by
  intro i s t h
  constructor
  · intro hi
    rw [eq_withTxOf hi h]
    exact ⟨⟨rfl, rfl, rfl, rfl, rfl, rfl, rfl, rfl, rfl, rfl⟩, ⟨rfl, rfl, rfl, rfl, rfl, rfl⟩⟩
  · intro hi
    rw [eq_withRxOf hi h]
    exact ⟨⟨rfl, rfl, rfl, rfl, rfl, rfl, rfl⟩, ⟨rfl, rfl, rfl, rfl, rfl, rfl⟩⟩

/-- Settles O33: each half runs beside the other's next state as it runs beside the state before. -/
theorem halvesCommute : Obligations.HalvesCommute := by
  intro i j s hi hj
  obtain ⟨t, ht⟩ := exec_txMicroOp_runs hi s
  obtain ⟨u, hu⟩ := exec_rxMicroOp_runs hj s
  refine ⟨t, u, (s.withTxOf t).withRxOf u, ht, hu, ?_, ?_⟩
  · have h := exec_withRxOf hj (r := s.withTxOf t) (s := s) rfl rfl
    rw [hu] at h
    rw [eq_withTxOf hi ht]
    exact h
  · have h := exec_withTxOf hi (r := s.withRxOf u) (s := s) rfl
    rw [ht] at h
    rw [eq_withRxOf hj hu]
    exact h

/-- Settles O41: the ports are not among what a micro-operation reads or writes. -/
theorem runningOperationsIgnoreThePorts : Obligations.RunningOperationsIgnoreThePorts := by
  rintro i s w cap' (hi | hi)
  · obtain ⟨t, ht⟩ := exec_txMicroOp_runs hi s
    have h := exec_withTxOf hi (r := { s with txFrame := w, capPort := cap' }) (s := s) rfl
    rw [ht, eq_withTxOf hi ht] at h
    rw [ht, eq_withTxOf hi ht]
    exact h
  · obtain ⟨t, ht⟩ := exec_rxMicroOp_runs hi s
    have h := exec_withRxOf hi (r := { s with txFrame := w, capPort := cap' }) (s := s) rfl rfl
    rw [ht, eq_withRxOf hi ht] at h
    rw [ht, eq_withRxOf hi ht]
    exact h

/-! ### What any instruction does -/

/-- A symbol has one or two events (R50). -/
theorem length_symbolEvents_le (y : Symbol) : (symbolEvents y).length ≤ 2 := by
  cases y <;> decide

/-- A micro-operation of the serializer adds at most two strobes at the end of what the collaborator got (R33, R34). -/
theorem exec_txMicroOp_txOut {i : Instr} (hi : i ∈ txMicroOps) {s t : State} (h : exec i s = .next t) :
    ∃ more, t.txOut = s.txOut ++ more ∧ more.length ≤ 2 := by
  cases i with
  | txIdle =>
    cases h
    exact ⟨[], (List.append_nil _).symm, by decide⟩
  | txCarrier | txPerform =>
    cases h
    exact ⟨[_], rfl, by decide⟩
  | txHdr | txGap | txFoot =>
    cases h
    exact ⟨_, rfl, by decide⟩
  | txBit =>
    cases h
    exact ⟨_, by rw [advanceTx_txOut, emitSymbol_txOut], by
      rw [List.length_map]
      exact length_symbolEvents_le _⟩
  | _ => simp [txMicroOps] at hi

/-- The row of a symbol in the opcode table (R50). -/
def symbolRow : Symbol → Instr
  | .header => .symH
  | .zero => .sym0
  | .one => .sym1
  | .gap => .symG
  | .footer => .symF

/-- Everything an instruction that answers a next state can have done. -/
inductive Did (s : State) : Instr → State → Prop
  | txMicroOp {i : Instr} (hi : i ∈ txMicroOps) (t : State) (more : List TxStrobe)
      (hout : t.txOut = s.txOut ++ more) (hlen : more.length ≤ 2) : Did s i (s.withTxOf t)
  | rxMicroOp {i : Instr} (hi : i ∈ rxMicroOps) (t : State) : Did s i (s.withRxOf t)
  | symbol (y : Symbol) : Did s (symbolRow y) (s.emitSymbol y).takeDatum
  | frame (p m t v f : Byte) (c : BitVec 24) (x : BitVec 16) (k : Byte) :
      Did s (.frame18 p m t v f c x k) (s.driveTxFrame (frameWord p m t v f c x k)).takeDatum
  | txSend : Did s .txSend s.startTx
  | rxDecode : Did s .rxDecode s.startRx
  | cmdNone : Did s .cmdNone s

/-- What one instruction can do, said once for all of them. -/
theorem did_of_exec {i : Instr} {s t : State} (h : exec i s = .next t) : Did s i t := by
  have htx (hi : i ∈ txMicroOps) : Did s i t := by
    obtain ⟨more, hout, hlen⟩ := exec_txMicroOp_txOut hi h
    rw [eq_withTxOf hi h]
    exact .txMicroOp hi t more hout hlen
  have hrx (hi : i ∈ rxMicroOps) : Did s i t := by
    rw [eq_withRxOf hi h]
    exact .rxMicroOp hi t
  cases i with
  | symH => cases h; exact .symbol .header
  | sym0 => cases h; exact .symbol .zero
  | sym1 => cases h; exact .symbol .one
  | symG => cases h; exact .symbol .gap
  | symF => cases h; exact .symbol .footer
  | frame18 p m t v f c x k => cases h; exact .frame p m t v f c x k
  | txSend =>
    obtain ⟨-, rfl⟩ := exec_txSend_eq_next.mp h
    exact .txSend
  | rxDecode =>
    obtain ⟨-, rfl⟩ := exec_rxDecode_eq_next.mp h
    exact .rxDecode
  | cmdNone => cases h; exact .cmdNone
  | cmdRefused => cases h
  | txIdle | txCarrier | txHdr | txBit | txGap | txFoot | txPerform => exact htx (by decide)
  | rxIdle | rxHdr | rxBit | rxChk | rxDone => exact hrx (by decide)

/-- A micro-operation of the serializer is no command and no micro-operation of the deserializer (R58). -/
theorem txMicroOp_ne : ∀ i ∈ txMicroOps, i ≠ .txSend ∧ i ≠ .rxDecode ∧ i ≠ .cmdNone ∧ i ∉ rxMicroOps := by decide

/-- A micro-operation of the deserializer is no command (R58). -/
theorem rxMicroOp_ne : ∀ i ∈ rxMicroOps, i ≠ .txSend ∧ i ≠ .rxDecode ∧ i ≠ .cmdNone := by decide

/-- A symbol row is no command and no micro-operation of the deserializer (R58). -/
theorem symbolRow_ne (y : Symbol) :
    symbolRow y ≠ .txSend ∧ symbolRow y ≠ .rxDecode ∧ symbolRow y ≠ .cmdNone ∧ symbolRow y ∉ rxMicroOps := by
  cases y <;> decide

/-- Settles O34: of all that an instruction can do, only the start of a send writes `TXF`. -/
theorem onlySendWritesTxf : Obligations.OnlySendWritesTxf := by
  intro i s t h
  cases did_of_exec h with
  | txMicroOp hi =>
    obtain ⟨hsend, -⟩ := txMicroOp_ne i hi
    rw [if_neg hsend]
    exact ⟨rfl, rfl⟩
  | rxMicroOp hi =>
    obtain ⟨hsend, -⟩ := rxMicroOp_ne i hi
    rw [if_neg hsend]
    exact ⟨rfl, rfl⟩
  | symbol y =>
    obtain ⟨hsend, -⟩ := symbolRow_ne y
    simp [hsend]
  | txSend => simp
  | frame | rxDecode | cmdNone => simp

/-- Settles O36: of all that an instruction can do, only the start of a decode takes a capture. -/
theorem inputsStayFixed : Obligations.InputsStayFixed := by
  intro i s t h
  cases did_of_exec h with
  | txMicroOp hi =>
    obtain ⟨-, hdecode, -⟩ := txMicroOp_ne i hi
    exact ⟨rfl, rfl, fun _ => rfl, fun hd => absurd hd hdecode⟩
  | rxMicroOp hi =>
    obtain ⟨-, hdecode, -⟩ := rxMicroOp_ne i hi
    exact ⟨rfl, rfl, fun _ => rfl, fun hd => absurd hd hdecode⟩
  | symbol y =>
    obtain ⟨-, hdecode, -⟩ := symbolRow_ne y
    simp [hdecode]
  | frame | txSend | rxDecode | cmdNone => simp

/-- Settles O37: of all that an instruction can do, only symbols and the serializer's micro-operations add strobes. -/
theorem trainIsAppendOnly : Obligations.TrainIsAppendOnly := by
  intro i s t h
  cases did_of_exec h with
  | txMicroOp hi t more hout hlen =>
    obtain ⟨hsend, hdecode, hnone, hrx⟩ := txMicroOp_ne i hi
    exact ⟨fun _ => ⟨more, hout, hlen⟩, fun hs => absurd hs hsend, by simp [hrx, hdecode, hnone]⟩
  | rxMicroOp hi =>
    obtain ⟨hsend, -⟩ := rxMicroOp_ne i hi
    exact ⟨fun _ => ⟨[], (List.append_nil _).symm, by decide⟩, fun hs => absurd hs hsend, fun _ => rfl⟩
  | symbol y =>
    obtain ⟨hsend, hdecode, hnone, hrx⟩ := symbolRow_ne y
    exact ⟨fun _ => ⟨_, emitSymbol_txOut y s, by simpa using length_symbolEvents_le y⟩, fun hs => absurd hs hsend,
      by simp [hrx, hdecode, hnone]⟩
  | txSend => simp [State.train, rxMicroOps]
  | frame | rxDecode | cmdNone => simp [rxMicroOps]

/-! ### Writes to `RXF` -/

section
variable (s : State)

@[simp] theorem passCheck_rxf : s.passCheck.rxf = s.rxf := by
  obtain ⟨-, h⟩ | ⟨-, h⟩ := passCheck_cases s <;> simp [h, finishRx_eq]

@[simp] theorem passCheck_rxfWritten : s.passCheck.rxfWritten = s.rxfWritten := by
  obtain ⟨-, h⟩ | ⟨-, h⟩ := passCheck_cases s <;> simp [h, finishRx_eq]

variable {s}

/-- The byte a bit is read into is the only one that the start of a byte clears (R92). -/
theorem beginByte_other {m : Fin 18} (hm : m ≠ s.rxByte) :
    s.beginByte.rxf[m.val] = s.rxf[m.val] ∧
      s.beginByte.rxfWritten.getLsbD m.val = s.rxfWritten.getLsbD m.val := by
  have hne : s.rxByte.val ≠ m.val := fun h => hm (Fin.ext h.symm)
  obtain ⟨-, h⟩ | ⟨-, h⟩ := beginByte_cases s
  · rw [h]
    have hbit : (1#18 <<< s.rxByte.val).getLsbD m.val = false := by
      simp
      omega
    refine ⟨?_, ?_⟩
    · simp [hne]
    · rw [clearRxf_rxfWritten, BitVec.getLsbD_or, hbit, Bool.or_false]
  · rw [h]
    exact ⟨rfl, rfl⟩

/-- Of the deserializer's micro-operations, all but `RX.BIT` leave `RXF` alone (R12). -/
theorem exec_rxMicroOp_rxf {i : Instr} {t : State} (hi : i ∈ rxMicroOps) (hbit : i ≠ .rxBit)
    (h : exec i s = .next t) : t.rxf = s.rxf ∧ t.rxfWritten = s.rxfWritten := by
  cases i with
  | rxIdle | rxDone => cases h; exact ⟨rfl, rfl⟩
  | rxHdr =>
    change execRxHdr s = .next t at h
    unfold execRxHdr at h
    split at h
    case h_1 s' hs' =>
      obtain ⟨-, rfl⟩ := expectItem_eq_some.mp hs'
      cases h
      exact ⟨rfl, rfl⟩
    case h_2 =>
      cases h
      exact ⟨rfl, rfl⟩
  | rxChk =>
    change execRxChk s = .next t at h
    obtain ⟨-, -, -, h'⟩ | ⟨-, h'⟩ := execRxChk_cases s <;>
    · rw [h'] at h
      cases h
      simp
  | rxBit => exact absurd rfl hbit
  | _ => simp [rxMicroOps] at hi

/-- `RX.BIT` leaves every byte but the one it reads into alone (R92). -/
theorem execRxBit_other {t : State} (h : execRxBit s = .next t) {m : Fin 18} (hm : m ≠ s.rxByte) :
    t.rxf[m.val] = s.rxf[m.val] ∧ t.rxfWritten.getLsbD m.val = s.rxfWritten.getLsbD m.val := by
  have hne : s.rxByte.val ≠ m.val := fun h => hm (Fin.ext h.symm)
  obtain ⟨hbyte, hwritten⟩ := beginByte_other hm
  obtain ⟨-, h'⟩ | ⟨-, -, h'⟩ | ⟨-, -, h'⟩ := execRxBit_cases s <;>
  · rw [h'] at h
    cases h
    exact ⟨by simp [hne, hbyte], by simpa using hwritten⟩

end

/-- Settles O35: of all that an instruction can do, only `RX.BIT` writes `RXF`, in the byte it reads into. -/
theorem onlyRxBitWritesRxf : Obligations.OnlyRxBitWritesRxf := by
  intro i s t h
  constructor
  · intro hbit
    cases did_of_exec h with
    | rxMicroOp hi => exact exec_rxMicroOp_rxf hi hbit h
    | txMicroOp => exact ⟨rfl, rfl⟩
    | symbol | frame | txSend | rxDecode | cmdNone => simp
  · rintro rfl m hm
    exact execRxBit_other h hm

/-! ### The result registers -/

/-- Another result pair is not noticed: the outcome is the same, or the same with the pair carried on (R16, R22). -/
def ResultUnread (s : State) (st : RxStatus) (pos : Byte) (o o' : Host.Outcome State Fault Refusal) : Prop :=
  o' = o ∨
    (o' = mapNext (State.setRxResult st pos) o ∧ ∀ t, o = .next t → t.rxStatus = s.rxStatus ∧ t.rxErrpos = s.rxErrpos)

section
variable {s : State} (st : RxStatus) (pos : Byte)

/-- An outcome that still holds the old pair carries another one on. -/
theorem resultUnread_of_carried {t : State} (hst : t.rxStatus = s.rxStatus) (hpos : t.rxErrpos = s.rxErrpos) :
    ResultUnread s st pos (.next t) (.next (t.setRxResult st pos)) := by
  refine .inr ⟨rfl, ?_⟩
  rintro _ ⟨⟩
  exact ⟨hst, hpos⟩

/-! The shared operations carry the pair on. -/

theorem beginByte_setRxResult : (s.setRxResult st pos).beginByte = s.beginByte.setRxResult st pos := by
  simp only [State.beginByte, apply_ite (State.setRxResult st pos)]
  rfl

theorem expectItem_setRxResult (m sp : Nat) :
    (s.setRxResult st pos).expectItem m sp = (s.expectItem m sp).map (State.setRxResult st pos) := by
  simp only [State.expectItem, apply_ite (Option.map (State.setRxResult st pos))]
  rfl

theorem advanceRx_setRxResult : (s.setRxResult st pos).advanceRx = s.advanceRx.setRxResult st pos := by
  simp only [State.advanceRx, apply_ite (State.setRxResult st pos)]
  rfl

/-- `RX.HDR` carries the pair on, or raises and overwrites it (R91). -/
theorem resultUnread_rxHdr : ResultUnread s st pos (exec .rxHdr s) (exec .rxHdr (s.setRxResult st pos)) := by
  show ResultUnread s st pos (execRxHdr s) (execRxHdr (s.setRxResult st pos))
  simp only [execRxHdr, expectItem_setRxResult]
  cases h : s.expectItem Config.timing.tHdrMark Config.timing.tHdrSpace with
  | none => exact .inl rfl
  | some s' =>
    obtain ⟨-, rfl⟩ := expectItem_eq_some.mp h
    exact resultUnread_of_carried (t := (s.setRxCur _).setRxPc .bit 0 0 _) st pos rfl rfl

/-- A bit read and the position moved on carries the pair on. -/
theorem resultUnread_advanceRx {x : State} (hst : x.rxStatus = s.rxStatus) (hpos : x.rxErrpos = s.rxErrpos) :
    ResultUnread s st pos (.next x.advanceRx) (.next (x.setRxResult st pos).advanceRx) := by
  rw [advanceRx_setRxResult]
  exact resultUnread_of_carried st pos (by rwa [advanceRx_rxStatus]) (by rwa [advanceRx_rxErrpos])

/-- `RX.BIT` carries the pair on, or raises and overwrites it (R92). -/
theorem resultUnread_rxBit : ResultUnread s st pos (exec .rxBit s) (exec .rxBit (s.setRxResult st pos)) := by
  show ResultUnread s st pos (execRxBit s) (execRxBit (s.setRxResult st pos))
  simp only [execRxBit, beginByte_setRxResult, expectItem_setRxResult]
  cases h1 : s.beginByte.expectItem Config.timing.tBitMark Config.timing.tOneSpace with
  | some s1 =>
    obtain ⟨-, rfl⟩ := expectItem_eq_some.mp h1
    exact resultUnread_advanceRx st pos (x := (s.beginByte.setRxCur _).setRxfBit s.rxByte s.rxBit) (by simp) (by simp)
  | none =>
    cases h0 : s.beginByte.expectItem Config.timing.tBitMark Config.timing.tZeroSpace with
    | some s2 =>
      obtain ⟨-, rfl⟩ := expectItem_eq_some.mp h0
      exact resultUnread_advanceRx st pos (x := s.beginByte.setRxCur _) (by simp) (by simp)
    | none => exact .inl rfl

/-- What follows a check carries the pair on before byte 17, and overwrites it after (R93, R94). -/
theorem resultUnread_passCheck :
    ResultUnread s st pos (.next s.passCheck) (.next (s.setRxResult st pos).passCheck) := by
  unfold State.passCheck
  by_cases hi : s.rxByte.val + 1 < Config.nBytes
  · rw [if_pos hi, if_pos (show (s.setRxResult st pos).rxByte.val + 1 < Config.nBytes from hi)]
    exact resultUnread_of_carried (t := s.setRxPc .bit (s.rxByte + 1) 0 s.rxCur) st pos rfl rfl
  · rw [if_neg hi, if_neg (show ¬ (s.setRxResult st pos).rxByte.val + 1 < Config.nBytes from hi)]
    exact .inl rfl

/-- A byte that is allowed is passed (R93). -/
theorem execRxChk_of_allowed (h : byteAllowed s.rxByte.val s.rxf[s.rxByte.val] = true) :
    execRxChk s = .next s.passCheck := if_pos h

/-- A byte that is not allowed raises its position (R93). -/
theorem execRxChk_of_not_allowed (h : ¬ byteAllowed s.rxByte.val s.rxf[s.rxByte.val] = true) :
    execRxChk s = .next (s.raiseRx (.fixedByteMismatch s.rxByte.val)) := if_neg h

/-- `RX.CHK` does what follows the check, or raises and overwrites the pair (R93). -/
theorem resultUnread_rxChk : ResultUnread s st pos (exec .rxChk s) (exec .rxChk (s.setRxResult st pos)) := by
  show ResultUnread s st pos (execRxChk s) (execRxChk (s.setRxResult st pos))
  by_cases hb : byteAllowed s.rxByte.val s.rxf[s.rxByte.val] = true
  · rw [execRxChk_of_allowed hb, execRxChk_of_allowed (s := s.setRxResult st pos) hb]
    exact resultUnread_passCheck st pos
  · rw [execRxChk_of_not_allowed hb, execRxChk_of_not_allowed (s := s.setRxResult st pos) hb]
    exact .inl rfl

/-- A micro-operation of the serializer carries the pair on (R10). -/
theorem resultUnread_txMicroOp {i : Instr} (hi : i ∈ txMicroOps) :
    ResultUnread s st pos (exec i s) (exec i (s.setRxResult st pos)) := by
  obtain ⟨t, ht⟩ := exec_txMicroOp_runs hi s
  have h := exec_withTxOf hi (r := s.setRxResult st pos) (s := s) rfl
  rw [show (s.setRxResult st pos).withTxOf s = s.setRxResult st pos from rfl] at h
  rw [h, ht, eq_withTxOf hi ht]
  exact resultUnread_of_carried (t := s.withTxOf t) st pos rfl rfl

/-- A send carries the pair on, or is refused (R25). -/
theorem resultUnread_txSend : ResultUnread s st pos (exec .txSend s) (exec .txSend (s.setRxResult st pos)) := by
  by_cases h : s.txPhase = .idle
  · have hstart : (s.setRxResult st pos).startTx = s.startTx.setRxResult st pos := by
      simp only [startTx_eq, State.setRxResult]
    rw [exec_txSend_of_idle h, exec_txSend_of_idle (s := s.setRxResult st pos) h, hstart]
    exact resultUnread_of_carried st pos (startTx_rxStatus s) (startTx_rxErrpos s)
  · rw [exec_txSend_of_busy h, exec_txSend_of_busy (s := s.setRxResult st pos) h]
    exact .inl rfl

/-- The start of a decode overwrites the pair, or is refused (R25). -/
theorem resultUnread_rxDecode : ResultUnread s st pos (exec .rxDecode s) (exec .rxDecode (s.setRxResult st pos)) := by
  by_cases h : s.rxPhase = .idle
  · rw [exec_rxDecode_of_idle h, exec_rxDecode_of_idle (s := s.setRxResult st pos) h]
    exact .inl rfl
  · rw [exec_rxDecode_of_busy h, exec_rxDecode_of_busy (s := s.setRxResult st pos) h]
    exact .inl rfl

end

/-- Settles O40: by cases on the row; those that end or start a decode overwrite the pair, the others carry it on. -/
theorem noInstructionReadsTheResult : Obligations.NoInstructionReadsTheResult := by
  intro i s st pos
  cases i with
  | symH => exact resultUnread_of_carried (t := (s.emitSymbol .header).takeDatum) st pos rfl rfl
  | sym0 => exact resultUnread_of_carried (t := (s.emitSymbol .zero).takeDatum) st pos rfl rfl
  | sym1 => exact resultUnread_of_carried (t := (s.emitSymbol .one).takeDatum) st pos rfl rfl
  | symG => exact resultUnread_of_carried (t := (s.emitSymbol .gap).takeDatum) st pos rfl rfl
  | symF => exact resultUnread_of_carried (t := (s.emitSymbol .footer).takeDatum) st pos rfl rfl
  | frame18 p m t v f c x k =>
    exact resultUnread_of_carried (t := (s.driveTxFrame (frameWord p m t v f c x k)).takeDatum) st pos rfl rfl
  | txSend => exact resultUnread_txSend st pos
  | rxDecode => exact resultUnread_rxDecode st pos
  | cmdNone | rxIdle => exact resultUnread_of_carried (t := s) st pos rfl rfl
  | cmdRefused | rxDone => exact .inl rfl
  | txIdle | txCarrier | txHdr | txBit | txGap | txFoot | txPerform => exact resultUnread_txMicroOp st pos (by decide)
  | rxHdr => exact resultUnread_rxHdr st pos
  | rxBit => exact resultUnread_rxBit st pos
  | rxChk => exact resultUnread_rxChk st pos

/-! ### The train by position -/

/-- Position `n` of `l` begins the stretch `es`. -/
def StandsAt (l : List Event) (n : Nat) (es : List Event) : Prop :=
  ∃ pre rest, pre.length = n ∧ l = pre ++ (es ++ rest)

section
variable {l m es : List Event} {n k : Nat}

/-- A stretch of a stretch. -/
theorem StandsAt.trans (hl : StandsAt l n m) (hm : StandsAt m k es) : StandsAt l (n + k) es := by
  obtain ⟨pre, rest, rfl, rfl⟩ := hl
  obtain ⟨pre', rest', rfl, rfl⟩ := hm
  exact ⟨pre ++ pre', rest' ++ rest, List.length_append, by simp⟩

/-- A stretch extends what stands before it. -/
theorem StandsAt.take_add (h : StandsAt l n es) : l.take (n + es.length) = l.take n ++ es := by
  obtain ⟨pre, rest, rfl, rfl⟩ := h
  simp [List.take_append]

end

/-- Bytes of bits, one after the other, are the bits in wire order (R56). -/
theorem flatMap_bytes_eq_flatMap_bits (g : Nat → List Event) (n : Nat) :
    (List.range n).flatMap (fun i => (List.range 8).flatMap fun j => g (8 * i + j)) =
      (List.range (8 * n)).flatMap g := by
  induction n with
  | zero => rfl
  | succ n ih =>
    rw [List.range_succ (n := n), List.flatMap_append, ih, Nat.mul_succ, List.range_add, List.flatMap_append]
    simp [List.flatMap_map]

/-- `n` pairs in a row have length `2n`. -/
theorem length_flatMap_pairs {g : Nat → List Event} (hg : ∀ k, (g k).length = 2) (n : Nat) :
    ((List.range n).flatMap g).length = 2 * n := by
  simp [List.length_flatMap, hg, Nat.mul_comm]

/-- Of `n` pairs in a row, pair `k` stands at `2k`. -/
theorem standsAt_flatMap_pairs {g : Nat → List Event} (hg : ∀ k, (g k).length = 2) {n k : Nat} (hk : k < n) :
    StandsAt ((List.range n).flatMap g) (2 * k) (g k) := by
  obtain ⟨m, rfl⟩ := Nat.exists_eq_add_of_lt hk
  refine ⟨_, (List.range m).flatMap fun i => g (k + 1 + i), length_flatMap_pairs hg k, ?_⟩
  rw [Nat.add_right_comm k m 1]
  simp [List.range_add, List.flatMap_map]

/-- The events of a data bit (R50, R54). -/
def bitEvents (F : Frame) (k : Nat) : List Event := symbolEvents (bitSymbol (wireBit F k))

theorem length_bitEvents (F : Frame) (k : Nat) : (bitEvents F k).length = 2 := by
  unfold bitEvents
  cases wireBit F k <;> rfl

/-- One repetition is the header and the 144 bits in wire order (R70). -/
theorem repetition_eq_bits (F : Frame) :
    repetition F = symbolEvents .header ++ (List.range 144).flatMap (bitEvents F) := by
  rw [repetition, ← flatMap_bytes_eq_flatMap_bits (bitEvents F) 18]
  refine congrArg (symbolEvents .header ++ ·) ?_
  refine List.flatMap_congr fun i hi => List.flatMap_congr fun j hj => ?_
  have hj8 : j < 8 := List.mem_range.mp hj
  have hdiv : (8 * i + j) / 8 = i := by omega
  have hmod : (8 * i + j) % 8 = j := by omega
  rw [bitEvents, wireBit_eq, hdiv, hmod]

/-- One repetition has 290 events (R70, R79). -/
theorem length_repetition (F : Frame) : (repetition F).length = 290 := by
  rw [repetition_eq_bits, List.length_append, length_flatMap_pairs (length_bitEvents F)]
  rfl

/-- A train has 583 events (R70, R79). -/
theorem length_txTrain (F : Frame) : (txTrain F).length = 583 := by
  simp only [txTrain_eq, List.length_append, length_repetition]
  rfl

theorem standsAt_header (F : Frame) : StandsAt (repetition F) 0 (symbolEvents .header) :=
  ⟨[], (List.range 144).flatMap (bitEvents F), rfl, by rw [List.nil_append, repetition_eq_bits]⟩

theorem standsAt_bit (F : Frame) {k : Nat} (hk : k < 144) : StandsAt (repetition F) (2 + 2 * k) (bitEvents F k) := by
  have hbits : StandsAt (repetition F) 2 ((List.range 144).flatMap (bitEvents F)) :=
    ⟨symbolEvents .header, [], rfl, by rw [repetition_eq_bits, List.append_nil]⟩
  exact hbits.trans (standsAt_flatMap_pairs (length_bitEvents F) hk)

/-- Each repetition stands in the train, the second behind the gap (R53, R70). -/
theorem standsAt_repetition (F : Frame) (r : Fin 2) : StandsAt (txTrain F) (292 * r.val) (repetition F) := by
  fin_cases r
  · exact ⟨[], symbolEvents .gap ++ (repetition F ++ symbolEvents .footer), rfl, by simp [txTrain_eq]⟩
  · exact ⟨repetition F ++ symbolEvents .gap, symbolEvents .footer, by simp [length_repetition, symbolEvents],
      by simp [txTrain_eq]⟩

theorem standsAt_gap (F : Frame) : StandsAt (txTrain F) 290 (symbolEvents .gap) :=
  ⟨repetition F, repetition F ++ symbolEvents .footer, length_repetition F, by simp [txTrain_eq]⟩

theorem standsAt_footer (F : Frame) : StandsAt (txTrain F) 582 (symbolEvents .footer) :=
  ⟨repetition F ++ symbolEvents .gap ++ repetition F, [], by simp [length_repetition, symbolEvents],
    by simp [txTrain_eq]⟩

/-! ### The serializer keeps its invariant -/

/-- The carrier and the first `n` events of the train (R45, R70). -/
def txSent (F : Frame) (n : Nat) : List TxStrobe :=
  .carrier Config.timing.carrierHz :: ((txTrain F).take n).map .event

/-- A stretch of the train sent in its place is the train sent that much further. -/
theorem txSent_append {F : Frame} {n : Nat} {es : List Event} (h : StandsAt (txTrain F) n es) :
    txSent F n ++ es.map .event = txSent F (n + es.length) := by
  simp [txSent, h.take_add]

/-- The whole train sent, and `Perform`, is the transcript of a send (R81). -/
theorem txSent_all_append_perform (F : Frame) : txSent F 583 ++ [.perform] = txTranscript F := by
  simp [txSent, txTranscript, List.take_of_length_le (length_txTrain F).le]

/-- The wire index is one of the 144 (R6). -/
theorem wireIndex_lt (i : Fin 18) (j : Fin 8) : wireIndex i j < 144 := by
  rw [wireIndex_eq]
  omega

/-- The bit at the wire index of bit `j` of byte `i` (R6). -/
theorem wireBit_wireIndex (F : Frame) (i : Fin 18) (j : Fin 8) :
    wireBit F (wireIndex i j) = byteBit F[i.val] j.val := by
  have hdiv : (8 * i.val + j.val) / 8 = i.val := by omega
  have hmod : (8 * i.val + j.val) % 8 = j.val := by omega
  rw [wireBit_eq, wireIndex_eq, hdiv, hmod]
  exact dif_pos i.isLt

/-- A data bit has two events (R54). -/
theorem length_symbolEvents_bit (b : Bool) : (symbolEvents (bitSymbol b)).length = 2 := by cases b <;> rfl

section
variable {s : State}

/-- Past the start of a send, the collaborator holds the carrier and the events due by the position. -/
theorem txOutRight_iff (hidle : s.txPhase ≠ .idle) (hcarrier : s.txPhase ≠ .carrier) :
    TxOutRight s ↔ s.txOut = txSent s.txf (txEmitted s.txPhase s.txRep s.txByte s.txBit) := by
  unfold TxOutRight
  split <;> simp_all [txSent]

/-- What the invariant says past the start of a send. -/
theorem TxInv.sending {ph : TxPhase} (h : TxInv s) (hph : s.txPhase = ph) (hidle : ph ≠ .idle)
    (hcarrier : ph ≠ .carrier) :
    s.txOut = txSent s.txf (txEmitted ph s.txRep s.txByte s.txBit) ∧ s.txfWritten = true := by
  subst hph
  obtain ⟨-, hout, hwritten⟩ := h
  exact ⟨(txOutRight_iff hidle hcarrier).mp hout, hwritten ((txBusy_iff s).mpr hidle)⟩

/-- A symbol sent in its place keeps the invariant, when the position moves on by its events. -/
theorem txInv_emitSymbol {y : Symbol} {n : Nat} {ph : TxPhase} {r : Fin 2} {i : Fin 18} {j : Fin 8}
    (h : s.txOut = txSent s.txf n ∧ s.txfWritten = true) (hat : StandsAt (txTrain s.txf) n (symbolEvents y))
    (hidle : ph ≠ .idle) (hcarrier : ph ≠ .carrier) (hn : txEmitted ph r i j = n + (symbolEvents y).length)
    (hpos : TxPosLegal ((s.emitSymbol y).setTxPc ph r i j)) : TxInv ((s.emitSymbol y).setTxPc ph r i j) := by
  obtain ⟨hout, hwritten⟩ := h
  refine ⟨hpos, ?_, fun _ => by simpa using hwritten⟩
  rw [txOutRight_iff (by simpa using hidle) (by simpa using hcarrier)]
  simp [hout, hn, txSent_append hat]

/-- `TX.CARRIER` starts with an empty collaborator and sets the carrier (R71). -/
theorem txInv_txCarrier (hph : s.txPhase = .carrier) (h : TxInv s) :
    TxInv ((s.setCarrier Config.timing.carrierHz).setTxPc .hdr 0 0 0) := by
  obtain ⟨-, hout, hwritten⟩ := h
  simp only [TxOutRight, hph] at hout
  refine ⟨⟨rfl, rfl⟩, ?_, fun _ => hwritten ((txBusy_iff s).mpr (by simp [hph]))⟩
  simp [TxOutRight, State.setCarrier, hout, txEmitted]

/-- `TX.HDR` sends the header of its repetition (R72). -/
theorem txInv_txHdr (hph : s.txPhase = .hdr) (h : TxInv s) :
    TxInv ((s.emitSymbol .header).setTxPc .bit s.txRep 0 0) :=
  txInv_emitSymbol (h.sending hph (by decide) (by decide))
    ((standsAt_repetition s.txf s.txRep).trans (standsAt_header s.txf)) (by decide) (by decide) rfl trivial

/-- `TX.BIT` sends the bit at its wire position of its repetition (R73). -/
theorem txInv_txBit (hph : s.txPhase = .bit) (h : TxInv s) :
    TxInv (s.emitSymbol (bitSymbol (s.readTxfBit s.txByte s.txBit))).advanceTx := by
  have hat := (standsAt_repetition s.txf s.txRep).trans (standsAt_bit s.txf (wireIndex_lt s.txByte s.txBit))
  rw [bitEvents, wireBit_wireIndex, ← Nat.add_assoc] at hat
  have hlen : (symbolEvents (bitSymbol (s.readTxfBit s.txByte s.txBit))).length = 2 := length_symbolEvents_bit _
  have hnext {ph : TxPhase} {r : Fin 2} {i : Fin 18} {j : Fin 8} (hidle : ph ≠ .idle) (hcarrier : ph ≠ .carrier)
      (hn : txEmitted ph r i j = 292 * s.txRep.val + 2 + 2 * wireIndex s.txByte s.txBit + 2) :=
    txInv_emitSymbol (h.sending hph (by decide) (by decide)) hat hidle hcarrier
      (hn.trans (congrArg (_ + ·) hlen.symm))
  obtain ⟨hj, heq⟩ | ⟨hj, hi, heq⟩ | ⟨hj, hi, hr, heq⟩ | ⟨hj, hi, hr, heq⟩ :=
    advanceTx_cases (s.emitSymbol (bitSymbol (s.readTxfBit s.txByte s.txBit)))
  all_goals
    simp only [emitSymbol_txBit, emitSymbol_txByte, emitSymbol_txRep] at *
    rw [heq]
  · have hj' : (s.txBit + 1).val = s.txBit.val + 1 := Fin.val_add_one_of_lt' (show s.txBit.val + 1 < 8 by omega)
    exact hnext (by decide) (by decide) (by simp only [txEmitted, wireIndex_eq, hj']; omega) trivial
  · have hi' : (s.txByte + 1).val = s.txByte.val + 1 := Fin.val_add_one_of_lt' (show s.txByte.val + 1 < 18 by omega)
    exact hnext (by decide) (by decide) (by simp only [txEmitted, wireIndex_eq, hi', hj]; rfl) trivial
  · exact hnext (by decide) (by decide) (by simp only [txEmitted, wireIndex_eq, hi, hj, hr]; rfl) ⟨rfl, rfl, rfl⟩
  · exact hnext (by decide) (by decide) (by simp only [txEmitted, wireIndex_eq, hi, hj, hr]; rfl) ⟨rfl, rfl, rfl⟩

/-- `TX.GAP` sends the gap behind the first repetition (R74). -/
theorem txInv_txGap (hph : s.txPhase = .gap) (h : TxInv s) : TxInv ((s.emitSymbol .gap).setTxPc .hdr 1 0 0) :=
  txInv_emitSymbol (h.sending hph (by decide) (by decide)) (standsAt_gap s.txf) (by decide) (by decide) rfl ⟨rfl, rfl⟩

/-- `TX.FOOT` sends the footer behind the second repetition (R75). -/
theorem txInv_txFoot (hph : s.txPhase = .foot) (h : TxInv s) :
    TxInv ((s.emitSymbol .footer).setTxPc .perform 1 0 0) :=
  txInv_emitSymbol (h.sending hph (by decide) (by decide)) (standsAt_footer s.txf) (by decide) (by decide) rfl
    ⟨rfl, rfl, rfl⟩

/-- `TX.PERFORM` completes the transcript of a send (R76, R81). -/
theorem txInv_txPerform (hph : s.txPhase = .perform) (h : TxInv s) : TxInv (s.performTx.setTxPc .idle 0 0 0) := by
  obtain ⟨hout, -⟩ := h.sending hph (by decide) (by decide)
  refine ⟨⟨rfl, rfl, rfl⟩, .inr ?_, fun hb => by simp [State.txBusy] at hb⟩
  simp [State.performTx, hout, txEmitted, txSent_all_append_perform]

/-- The start of a send stands before the carrier with an empty collaborator and `TXF` written (R25, R34). -/
theorem txInv_startTx : TxInv s.startTx := ⟨⟨rfl, rfl, rfl⟩, rfl, fun _ => rfl⟩

/-- Whatever the serializer's phase selects keeps its invariant. -/
theorem txInv_microOp {t : State} (h : TxInv s) (he : exec s.txPhase.microOp s = .next t) : TxInv t := by
  cases hph : s.txPhase <;> rw [hph] at he <;> cases he
  case idle => exact h
  case carrier => exact txInv_txCarrier hph h
  case hdr => exact txInv_txHdr hph h
  case bit => exact txInv_txBit hph h
  case gap => exact txInv_txGap hph h
  case foot => exact txInv_txFoot hph h
  case perform => exact txInv_txPerform hph h

end

/-! ### The deserializer keeps its invariant -/

/-- A bit of a byte with one bit set to 1 (R92). -/
theorem byteBit_byteSetBit (b : Byte) {j m : Nat} (hj : j < 8) :
    byteBit (byteSetBit b j) m = (byteBit b m || decide (m = j)) := by
  have hone : (1#8 <<< j).getLsbD m = decide (m = j) := by
    rw [← BitVec.twoPow_eq, BitVec.getLsbD_twoPow]
    simp [hj, eq_comm]
  rw [byteBit, byteSetBit, BitVec.getLsbD_or, hone, byteBit]

/-- A bit of a frame with one byte replaced (R6). -/
theorem frameBit_set (F : Frame) (i : Fin 18) (b : Byte) (k m : Nat) :
    frameBit (F.set i.val b i.isLt) k m = if k = i.val then byteBit b m else frameBit F k m := by
  unfold frameBit
  by_cases hk : k = i.val
  · subst hk
    simp
  · have hk' : i.val ≠ k := Ne.symm hk
    simp [hk, hk']

/-- A bit of a byte that is in the frame (R6). -/
theorem frameBit_of_fin (F : Frame) (i : Fin 18) (m : Nat) : frameBit F i.val m = byteBit F[i.val] m := dif_pos i.isLt

section
variable {s t : State}

/-- One more bit recognised (R56). -/
theorem readSoFar_succ {n : Nat} (h : ReadSoFar s n) (hn : readBit s.tol s.cap (2 + 2 * n) = some (wireBit s.rxf n)) :
    ReadSoFar s (n + 1) := by
  obtain ⟨hheader, hbits⟩ := h
  refine ⟨hheader, fun k hk => ?_⟩
  obtain hk | rfl := Nat.lt_succ_iff_lt_or_eq.mp hk
  · exact hbits k hk
  · exact hn

/-- What was read so far stands in any state with the same tolerance and capture and the same bits in `RXF`. -/
theorem readSoFar_of_same {n : Nat} (h : ReadSoFar s n) (htol : t.tol = s.tol) (hcap : t.cap = s.cap)
    (hbits : ∀ k < n, wireBit t.rxf k = wireBit s.rxf k) : ReadSoFar t n := by
  obtain ⟨hheader, hread⟩ := h
  refine ⟨by rw [htol, hcap]; exact hheader, fun k hk => ?_⟩
  rw [htol, hcap, hbits k hk]
  exact hread k hk

/-- In the middle of byte `i`: its first `m` bits have been read, the byte is begun, and its other bits are 0 (R92). -/
structure Assembling (s : State) (m : Nat) : Prop where
  cleared : ResultCleared s
  cur : s.rxCur = 2 + 2 * (8 * s.rxByte.val + m)
  read : ReadSoFar s (8 * s.rxByte.val + m)
  done : BytesDone s (s.rxByte.val + 1) s.rxByte.val
  rest : ∀ k, m ≤ k → frameBit s.rxf s.rxByte.val k = false

/-- Bits before a byte are not in it. -/
theorem wireBit_set_of_lt (F : Frame) (i : Fin 18) (b : Byte) {k : Nat} (hk : k < 8 * i.val) :
    wireBit (F.set i.val b i.isLt) k = wireBit F k := by
  have hne : k / 8 ≠ i.val := by omega
  rw [wireBit_eq, frameBit_set, if_neg hne, wireBit_eq]

/-- Setting a bit to 1 changes the bit at its wire index alone (R92). -/
theorem wireBit_set_byteSetBit (F : Frame) (i : Fin 18) (j : Fin 8) (k : Nat) :
    wireBit (F.set i.val (byteSetBit F[i.val] j.val) i.isLt) k = (wireBit F k || decide (k = wireIndex i j)) := by
  rw [wireBit_eq, frameBit_set, byteBit_byteSetBit _ j.isLt, wireBit_eq, wireIndex_eq]
  by_cases hi : k / 8 = i.val
  · have hiff : k % 8 = j.val ↔ k = 8 * i.val + j.val := by omega
    rw [if_pos hi, hi, frameBit_of_fin, decide_eq_decide.mpr hiff]
  · have hne : k ≠ 8 * i.val + j.val := by omega
    simp [hi, hne]

/-- Before bit 0 the byte is begun and cleared; before another bit it is begun already (R92). -/
theorem assembling_beginByte (hph : s.rxPhase = .bit) (h : RxPosRight s) :
    Assembling s.beginByte s.beginByte.rxBit.val := by
  rw [beginByte_rxBit]
  simp only [RxPosRight, hph] at h
  obtain ⟨hcleared, hcur, hread, ⟨hwritten, hallowed⟩, hrest⟩ := h
  obtain ⟨hj, heq⟩ | ⟨hj, heq⟩ := beginByte_cases s
  · rw [heq]
    rw [hj, if_pos rfl] at hwritten
    have hj0 : s.rxBit.val = 0 := congrArg Fin.val hj
    rw [wireIndex_eq, hj0] at hcur hread
    rw [hj0]
    have hother {m : Fin 18} (hm : m ≠ s.rxByte) := heq ▸ beginByte_other hm
    refine ⟨hcleared, hcur, ?_, ⟨fun m hm => ?_, fun m hm => ?_⟩, fun k _ => ?_⟩
    · exact readSoFar_of_same hread rfl rfl fun k hk => wireBit_set_of_lt s.rxf s.rxByte 0 hk
    · by_cases hmi : m = s.rxByte
      · simp [hmi]
      · have hlt : m.val < s.rxByte.val := lt_of_le_of_ne (Nat.lt_succ_iff.mp hm) fun h => hmi (Fin.ext h)
        exact (hother hmi).2.trans (hwritten m hlt)
    · have hmi : m ≠ s.rxByte := fun h => absurd hm (by rw [h]; exact lt_irrefl _)
      rw [(hother hmi).1]
      exact hallowed m hm
    · simp [frameBit_set, byteBit]
  · rw [heq]
    rw [if_neg hj] at hwritten
    exact ⟨hcleared, hcur, hread, ⟨hwritten, hallowed⟩, hrest hj⟩

/-- A bit that reads as 0 is read by moving on (R92). -/
theorem assembling_succ_of_zero (h : Assembling s s.rxBit.val) (hb : readBit s.tol s.cap s.rxCur = some false) :
    Assembling (s.setRxCur (s.rxCur + 2)) (s.rxBit.val + 1) := by
  obtain ⟨hcleared, hcur, hread, hdone, hrest⟩ := h
  have hbit : wireBit s.rxf (wireIndex s.rxByte s.rxBit) = false := by
    rw [wireBit_wireIndex, ← frameBit_of_fin]
    exact hrest _ le_rfl
  refine ⟨hcleared, ?_, readSoFar_succ hread ?_, hdone, fun k hk => hrest k (by omega)⟩
  · simp only [setRxCur_rxCur, setRxCur_rxByte]
    omega
  · exact (hcur ▸ hb).trans (congrArg some hbit.symm)

/-- A bit that reads as 1 is read by setting it (R92). -/
theorem assembling_succ_of_one (h : Assembling s s.rxBit.val) (hb : readBit s.tol s.cap s.rxCur = some true) :
    Assembling ((s.setRxCur (s.rxCur + 2)).setRxfBit s.rxByte s.rxBit) (s.rxBit.val + 1) := by
  obtain ⟨hcleared, hcur, hread, ⟨hwritten, hallowed⟩, hrest⟩ := h
  refine ⟨hcleared, ?_, readSoFar_succ (readSoFar_of_same hread rfl rfl fun k hk => ?_) ?_, ⟨hwritten, fun m hm => ?_⟩,
    fun k hk => ?_⟩
  · simp only [setRxfBit_rxCur, setRxCur_rxCur, setRxfBit_rxByte, setRxCur_rxByte]
    omega
  · have hne : k ≠ wireIndex s.rxByte s.rxBit := Nat.ne_of_lt hk
    simp [wireBit_set_byteSetBit, hne]
  · have hbit : wireBit (s.rxf.set s.rxByte.val (byteSetBit s.rxf[s.rxByte.val] s.rxBit.val) s.rxByte.isLt)
        (wireIndex s.rxByte s.rxBit) = true := by
      simp [wireBit_set_byteSetBit]
    exact (hcur ▸ hb).trans (congrArg some hbit.symm)
  · have hne : s.rxByte.val ≠ m.val := Nat.ne_of_gt hm
    simpa [hne] using hallowed m hm
  · have hne : k ≠ s.rxBit.val := by omega
    have hold : byteBit s.rxf[s.rxByte.val] k = false := by
      rw [← frameBit_of_fin]
      exact hrest k (by omega)
    simp [frameBit_set, byteBit_byteSetBit _ s.rxBit.isLt, hold, hne]

/-- A byte with another bit read is at its next bit or at its check (R92, R95). -/
theorem rxPosRight_advanceRx (h : Assembling s (s.rxBit.val + 1)) : RxPosRight s.advanceRx := by
  obtain ⟨hcleared, hcur, hread, hdone, hrest⟩ := h
  obtain ⟨hj, heq⟩ | ⟨hj, heq⟩ := advanceRx_cases s
  · have hj' : (s.rxBit + 1).val = s.rxBit.val + 1 := Fin.val_add_one_of_lt' (show s.rxBit.val + 1 < 8 by omega)
    have hne : s.rxBit + 1 ≠ 0 := fun h => by
      have h0 : (s.rxBit + 1).val = 0 := congrArg Fin.val h
      omega
    rw [heq]
    simp only [RxPosRight, setRxPc_rxPhase, setRxPc_rxByte, setRxPc_rxBit, setRxPc_rxCur, wireIndex_eq, hj']
    exact ⟨hcleared, hcur, hread, (congrArg (BytesDone s · s.rxByte.val) (if_neg hne)).mpr hdone, fun _ => hrest⟩
  · rw [heq]
    rw [hj] at hcur hread
    exact ⟨hcleared, rfl, hcur, hread, hdone⟩

/-- `RX.BIT` reads a bit in its place or raises its position (R92). -/
theorem rxInv_rxBit (hph : s.rxPhase = .bit) (h : RxInv s) (he : execRxBit s = .next t) : RxInv t := by
  obtain ⟨hpos, hhanded⟩ := h
  have hbegun := assembling_beginByte hph hpos
  obtain ⟨h1, heq⟩ | ⟨h1, h0, heq⟩ | ⟨-, -, heq⟩ := execRxBit_cases s <;> rw [heq] at he <;> cases he
  · have hb : readBit s.beginByte.tol s.beginByte.cap s.beginByte.rxCur = some true := by
      simp [readBit, Config.timing, h1]
    have hnext := rxPosRight_advanceRx (assembling_succ_of_one hbegun hb)
    rw [beginByte_rxCur, beginByte_rxByte, beginByte_rxBit] at hnext
    exact ⟨hnext, by simpa using hhanded⟩
  · have hb : readBit s.beginByte.tol s.beginByte.cap s.beginByte.rxCur = some false := by
      simp [readBit, Config.timing, h1, h0]
    have hnext := rxPosRight_advanceRx (assembling_succ_of_zero hbegun hb)
    rw [beginByte_rxCur] at hnext
    exact ⟨hnext, by simpa using hhanded⟩
  · refine ⟨⟨rfl, rfl, rfl, ?_⟩, by simpa using hhanded⟩
    have hlt := wireIndex_lt s.rxByte s.rxBit
    show (BitVec.ofNat 8 (wireIndex s.rxByte s.rxBit)).toNat < 144
    rwa [toNat_ofNat_of_lt (by omega)]

/-- `RX.HDR` recognises the header or raises position 0 (R91). -/
theorem rxInv_rxHdr (hph : s.rxPhase = .hdr) (h : RxInv s) (he : execRxHdr s = .next t) : RxInv t := by
  obtain ⟨hpos, hhanded⟩ := h
  simp only [RxPosRight, hph] at hpos
  obtain ⟨-, -, hcur, hcleared⟩ := hpos
  unfold execRxHdr at he
  split at he
  case h_1 s' hs' =>
    obtain ⟨hheader, rfl⟩ := expectItem_eq_some.mp hs'
    cases he
    rw [hcur] at hheader
    have hread : ReadSoFar s 0 := ⟨hheader, fun k hk => absurd hk (Nat.not_lt_zero k)⟩
    have hdone : BytesDone s 0 0 :=
      ⟨fun m hm => absurd hm (Nat.not_lt_zero _), fun m hm => absurd hm (Nat.not_lt_zero _)⟩
    exact ⟨⟨hcleared, congrArg (· + 2) hcur, hread, hdone, fun hne => absurd rfl hne⟩, hhanded⟩
  case h_2 =>
    cases he
    exact ⟨⟨rfl, rfl, rfl, rfl⟩, hhanded⟩

/-- `RX.CHK` raises the position of an entry of `FIXED`, goes on, or, after byte 17, hands over a frame with right fixed
bytes (R93, R94). -/
theorem rxInv_rxChk (hph : s.rxPhase = .chk) (h : RxInv s) (he : execRxChk s = .next t) : RxInv t := by
  obtain ⟨hpos, hhanded⟩ := h
  simp only [RxPosRight, hph] at hpos
  obtain ⟨hcleared, -, hcur, hread, hwritten, hallowed⟩ := hpos
  have hbyte := rxByte_lt s
  obtain ⟨v, hv, -, heq⟩ | ⟨hok, heq⟩ := execRxChk_cases s <;> rw [heq] at he <;> cases he
  · refine ⟨⟨rfl, rfl, rfl, ?_⟩, hhanded⟩
    have hmem : s.rxByte.val ∈ Config.fixedPos := (isSome_fixedAt_iff _).mp (by rw [hv]; rfl)
    show (BitVec.ofNat 8 s.rxByte.val).toNat ∈ Config.fixedPos
    rwa [toNat_ofNat_of_lt (by omega)]
  · have hdone : BytesDone s (s.rxByte.val + 1) (s.rxByte.val + 1) := by
      refine ⟨hwritten, fun m hm => ?_⟩
      obtain hlt | heq := Nat.lt_succ_iff_lt_or_eq.mp hm
      · exact hallowed m hlt
      · obtain rfl : m = s.rxByte := Fin.ext heq
        exact hok
    obtain ⟨hi, heq⟩ | ⟨hi, heq⟩ := passCheck_cases s <;> rw [heq]
    · have hi' : (s.rxByte + 1).val = s.rxByte.val + 1 := Fin.val_add_one_of_lt' (show s.rxByte.val + 1 < 18 by omega)
      refine ⟨?_, hhanded⟩
      simp only [RxPosRight, setRxPc_rxPhase, setRxPc_rxByte, setRxPc_rxBit, setRxPc_rxCur, wireIndex_eq, hi']
      exact ⟨hcleared, hcur, hread, hdone, fun hne => absurd rfl hne⟩
    · rw [hi] at hread hdone
      have hright : FixedBytesRight s.rxf := fun m => hdone.2 m m.isLt
      refine ⟨⟨rfl, rfl, rfl, rfl, hread, hdone, List.getLast?_concat⟩, ?_⟩
      simp only [finishRx_eq, List.mem_append, List.mem_singleton]
      rintro F (hF | rfl)
      · exact hhanded F hF
      · exact hright

/-- The start of a decode stands before the header with the result cleared (R25). -/
theorem rxInv_startRx (h : RxInv s) : RxInv s.startRx := ⟨⟨rfl, rfl, rfl, rfl, rfl⟩, h.2⟩

/-- Whatever the deserializer's phase selects keeps its invariant. -/
theorem rxInv_microOp (h : RxInv s) (he : exec s.rxPhase.microOp s = .next t) : RxInv t := by
  cases hph : s.rxPhase <;> rw [hph] at he
  case idle =>
    cases he
    exact h
  case hdr => exact rxInv_rxHdr hph h he
  case bit => exact rxInv_rxBit hph h he
  case chk => exact rxInv_rxChk hph h he

end

/-! ### The invariant of the whole block -/

/-- Settles O44: reset stands at both idle positions with nothing sent, read or handed over. -/
theorem invariantAtReset : Obligations.InvariantAtReset :=
  ⟨rfl, ⟨⟨rfl, rfl, rfl⟩, .inl rfl, fun h => by cases h⟩, ⟨rfl, rfl, rfl, rfl⟩, fun _ hF => by cases hF⟩

section
variable {s t : State}

/-- The free choice a step uses changes nothing the invariant speaks of. -/
theorem inv_beforeExec (h : Inv s) : Inv (beforeExec s) := by
  unfold beforeExec
  split <;> exact h

@[simp] theorem beforeExec_txPhase : (beforeExec s).txPhase = s.txPhase := by
  unfold beforeExec
  split <;> rfl

@[simp] theorem beforeExec_rxPhase : (beforeExec s).rxPhase = s.rxPhase := by
  unfold beforeExec
  split <;> rfl

/-- The serializer's invariant speaks of the serializer alone. -/
theorem txInv_of_sameTx (hsame : SameTx s t) (h : TxInv s) : TxInv t := by
  cases s
  cases t
  obtain ⟨rfl, rfl, rfl, rfl, rfl, rfl, rfl⟩ := hsame
  exact h

/-- The deserializer's invariant speaks of the deserializer and the tolerance alone. -/
theorem rxInv_of_sameRx (hsame : SameRx s t) (htol : t.tol = s.tol) (h : RxInv s) : RxInv t := by
  cases s
  cases t
  obtain ⟨rfl, rfl, rfl, rfl, rfl, rfl, rfl, rfl, rfl, rfl⟩ := hsame
  obtain rfl := htol
  exact h

/-- A micro-operation of the serializer keeps its own part of the invariant, and does not touch the other. -/
theorem inv_txMicroOp (h : Inv s) (he : exec s.txPhase.microOp s = .next t) : Inv t := by
  obtain ⟨hdatum, htx, hrx⟩ := h
  obtain ⟨hsame, htol, -, -, -, hdatum', -⟩ := (halvesShareNoState _ s t he).1 s.txPhase.microOp_mem
  exact ⟨hdatum'.trans hdatum, txInv_microOp htx he, rxInv_of_sameRx hsame htol hrx⟩

/-- A micro-operation of the deserializer keeps its own part of the invariant, and does not touch the other. -/
theorem inv_rxMicroOp (h : Inv s) (he : exec s.rxPhase.microOp s = .next t) : Inv t := by
  obtain ⟨hdatum, htx, hrx⟩ := h
  obtain ⟨hsame, -, -, -, -, hdatum', -⟩ := (halvesShareNoState _ s t he).2 s.rxPhase.microOp_mem
  exact ⟨hdatum'.trans hdatum, txInv_of_sameTx hsame htx, rxInv_microOp hrx he⟩

/-- A command starts one half in its invariant, and does not touch the other. -/
theorem inv_command {c : BitVec 2} (h : Inv s) (he : exec (decodeCmd c) s = .next t) : Inv t := by
  obtain ⟨hdatum, htx, hrx⟩ := h
  unfold decodeCmd at he
  split_ifs at he
  · cases he
    exact ⟨hdatum, htx, hrx⟩
  · obtain ⟨-, rfl⟩ := exec_txSend_eq_next.mp he
    have hsame : SameRx s s.startTx := by simp [SameRx]
    exact ⟨(startTx_datum s).trans hdatum, txInv_startTx, rxInv_of_sameRx hsame (startTx_tol s) hrx⟩
  · obtain ⟨-, rfl⟩ := exec_rxDecode_eq_next.mp he
    have hsame : SameTx s s.startRx := by simp [SameTx]
    exact ⟨(startRx_datum s).trans hdatum, txInv_of_sameTx hsame htx, rxInv_startRx hrx⟩
  · cases he

end

/-- Settles O45: a step is a command or the micro-operation of one phase, and each keeps the invariant. -/
theorem stepKeepsTheInvariant : Obligations.StepKeepsTheInvariant := by
  intro s t h hs
  have h' : Inv (beforeExec s) := inv_beforeExec h
  obtain ⟨c, hf⟩ | hf | hf := fetch_cases h.1 <;> rw [step_of_fetch hf] at hs
  · exact inv_command h' hs
  · exact inv_txMicroOp h' (by rwa [beforeExec_txPhase])
  · exact inv_rxMicroOp h' (by rwa [beforeExec_rxPhase])

/-! ### No fault, and no read before a write -/

/-- No instruction raises a fault (log entries 6 and 7; R149). -/
theorem exec_ne_fault (i : Instr) (s : State) (f : Fault) : exec i s ≠ .fault f := by
  have hruns (h : ∃ t, exec i s = .next t) : exec i s ≠ .fault f := by
    obtain ⟨t, ht⟩ := h
    rw [ht]
    nofun
  cases i with
  | txSend =>
    by_cases h : s.txPhase = .idle
    · exact hruns ⟨_, exec_txSend_of_idle h⟩
    · rw [exec_txSend_of_busy h]
      nofun
  | rxDecode =>
    by_cases h : s.rxPhase = .idle
    · exact hruns ⟨_, exec_rxDecode_of_idle h⟩
    · rw [exec_rxDecode_of_busy h]
      nofun
  | cmdRefused => nofun
  | symH | sym0 | sym1 | symG | symF | frame18 | cmdNone => exact hruns ⟨_, rfl⟩
  | txIdle | txCarrier | txHdr | txBit | txGap | txFoot | txPerform => exact hruns (exec_txMicroOp_runs (by decide) s)
  | rxIdle | rxHdr | rxBit | rxChk | rxDone => exact hruns (exec_rxMicroOp_runs (by decide) s)

/-- No step faults. -/
theorem step_ne_fault (s : State) (f : Fault) : step s ≠ .fault f := by
  cases hf : fetch s with
  | ok i =>
    rw [step_of_fetch hf]
    exact exec_ne_fault i _ f
  | error e =>
    rw [step_of_fetch_error hf]
    nofun

/-- With nothing pending, a step answers a next state. -/
theorem step_runs_of_nothingPending {s : State} (hn : NothingPending s) : ∃ t, step s = .next t := by
  by_cases ht : s.txPhase = .idle
  · by_cases hr : s.rxPhase = .idle
    · exact ⟨_, step_of_fetch (fetch_of_bothIdle hn ht hr)⟩
    · rw [step_of_fetch (fetch_of_rxBusy hn ht hr)]
      exact exec_rxMicroOp_runs s.rxPhase.microOp_mem _
  · by_cases hr : s.rxPhase = .idle
    · rw [step_of_fetch (fetch_of_txBusy hn ht hr)]
      exact exec_txMicroOp_runs s.txPhase.microOp_mem _
    · obtain hf | hf := fetch_of_bothBusy hn ht hr <;> rw [step_of_fetch hf]
      · exact exec_txMicroOp_runs s.txPhase.microOp_mem _
      · exact exec_rxMicroOp_runs s.rxPhase.microOp_mem _

/-- Under the invariant, `RX.CHK` reads a byte that has been begun, and a hand-over all 18 (R26). -/
theorem rxfWritten_of_chk {s : State} (h : RxInv s) (hph : s.rxPhase = .chk) :
    s.rxfWritten.getLsbD s.rxByte.val = true ∧ (s.rxByte.val = 17 → s.rxfWritten = BitVec.allOnes 18) := by
  obtain ⟨hpos, -⟩ := h
  simp only [RxPosRight, hph] at hpos
  obtain ⟨-, -, -, -, hwritten, -⟩ := hpos
  refine ⟨hwritten s.rxByte (Nat.lt_succ_self _), fun hi => ?_⟩
  apply BitVec.eq_of_getLsbD_eq
  intro k hk
  rw [hwritten ⟨k, hk⟩ (by rw [hi]; exact hk), BitVec.getLsbD_allOnes, decide_eq_true hk]

/-- Settles O46: no instruction faults, micro-operations always run, and the invariant knows what is written. -/
theorem runsNeverFault : Obligations.RunsNeverFault := by
  intro s
  refine ⟨step_ne_fault s, step_runs_of_nothingPending, ?_⟩
  rintro ⟨-, ⟨-, -, hwritten⟩, hrx⟩
  exact ⟨fun hph => hwritten (by simp [State.txBusy, hph]), rxfWritten_of_chk hrx⟩

end Sys2Proof.Machine
end

section
/-! PROOFS. The statements of 20_memory.md: the tolerance test and its properties (R37, R38), the query (R36), the result
of a decode as a function of its capture (R90, R98), the train by position (R79), the loopback (R107), and what reaches
the frame consumer (R40, R103). -/

namespace Sys2Proof.Machine

/-! ### The tolerance test -/

/-- The percentage window in figures (R37). -/
theorem accepts_percent_iff {p n d : Nat} :
    accepts (.percent p) n d = true ↔ n * (100 - p) / 100 ≤ d ∧ d ≤ n * (100 + p) / 100 := by
  rw [accepts, Bool.and_eq_true, decide_eq_true_iff, decide_eq_true_iff]
  rfl

/-- Settles O24: the edges of each window are evaluated. -/
theorem defaultWindows : Obligations.DefaultWindows :=
  fun _ => ⟨accepts_percent_iff, accepts_percent_iff, accepts_percent_iff, accepts_percent_iff, accepts_percent_iff⟩

/-- A nominal duration lies in its own percentage window (R37, R38). -/
theorem accepts_percent_self (p n : Nat) : accepts (.percent p) n n = true := by
  have hlower : n * (100 - p) ≤ n * 100 := Nat.mul_le_mul_left n (by omega)
  have hupper : n * 100 ≤ n * (100 + p) := Nat.mul_le_mul_left n (by omega)
  rw [accepts_percent_iff]
  omega

/-- The nominal zero-space stays below the one-space's window up to 68 percent (R38, R171). -/
theorem matchSep_percent_iff {p : Nat} : MatchSep (.percent p) ↔ p ≤ 68 := by
  rw [MatchSep, ← Bool.not_eq_true, accepts_percent_iff]
  omega

/-- Up to 52 percent the zero-space's window ends below the one-space's (R38, R171). -/
theorem matchDisj_percent_of_le {p : Nat} (hp : p ≤ 52) : MatchDisj (.percent p) := by
  rintro ⟨d, hone, hzero⟩
  rw [accepts_percent_iff] at hone hzero
  omega

/-- Settles O53: the windows' edges are linear in the percentage; at 53 a space of 590 is in both. -/
theorem defaultToleranceProperties : Obligations.DefaultToleranceProperties :=
  ⟨fun p hp => ⟨fun n _ => accepts_percent_self p n, matchSep_percent_iff.mpr (by omega), matchDisj_percent_of_le hp⟩,
    fun h => h ⟨590, by decide, by decide⟩, fun _ _ hp => matchSep_percent_iff.mpr hp,
    fun p hp h => absurd (matchSep_percent_iff.mp h) (by omega)⟩

/-! ### Queries -/

/-- Settles O25: the query is the test on the next two events. -/
theorem queryConsumesTwoOrNothing : Obligations.QueryConsumesTwoOrNothing :=
  fun _ _ _ =>
    ⟨fun d0 d1 h0 h1 hm hsp => expectItem_eq_some.mpr ⟨itemMatches_iff.mpr ⟨d0, d1, h0, h1, hm, hsp⟩, rfl⟩,
      fun hno => expectItem_eq_none.mpr (Bool.eq_false_iff.mpr (mt itemMatches_iff.mp hno))⟩

/-- A query beyond the end is false (R35, R98). -/
theorem itemMatches_of_length_le {t : Tolerance} {cap : List Event} {c m sp : Nat} (h : cap.length ≤ c + 1) :
    itemMatches t cap c m sp = false := by
  rw [← Bool.not_eq_true, itemMatches_iff]
  rintro ⟨d0, d1, -, hspace, -⟩
  rw [List.getElem?_eq_none h] at hspace
  cases hspace

/-- A query looks at two events and no further (R36). -/
theorem itemMatches_of_take_eq {t : Tolerance} {cap cap' : List Event} {n c m sp : Nat}
    (h : cap'.take n = cap.take n) (hc : c + 2 ≤ n) : itemMatches t cap' c m sp = itemMatches t cap c m sp := by
  have hevent {k : Nat} (hk : k < n) : cap'[k]? = cap[k]? := by
    rw [← List.getElem?_take_of_lt hk, h, List.getElem?_take_of_lt hk]
  rw [itemMatches, itemMatches, hevent (by omega), hevent (by omega)]

/-- One bit of a capture in figures (R55). -/
theorem readBit_eq (t : Tolerance) (cap : List Event) (c : Nat) :
    readBit t cap c =
      if itemMatches t cap c 430 1250 then some true else if itemMatches t cap c 430 390 then some false else none :=
  rfl

/-- Settles O54: the order is that of the two tests; an item that passes both has one space in both windows. -/
theorem oneSpaceIsTriedFirst : Obligations.OneSpaceIsTriedFirst := by
  intro t cap c
  refine ⟨fun hone => by simp [readBit_eq, hone], fun hone hzero => by simp [readBit_eq, hone, hzero],
    fun hone hzero => by simp [readBit_eq, hone, hzero], ?_⟩
  rintro hdisj ⟨hone, hzero⟩
  obtain ⟨-, d, -, hd, -, hone⟩ := itemMatches_iff.mp hone
  obtain ⟨-, d', -, hd', -, hzero⟩ := itemMatches_iff.mp hzero
  obtain rfl : d = d' := by simpa [hd] using hd'
  exact hdisj ⟨d, hone, hzero⟩

/-! ### A decode as a function of its capture -/

/-- Byte `i` as a capture carries it, its first `n` bits read (R56, R90). -/
def capturedBits (t : Tolerance) (cap : List Event) (i n : Nat) : Byte :=
  (List.range n).foldl
    (fun b j => if readBit t cap (2 + 2 * (8 * i + j)) = some true then byteSetBit b j else b) 0

section
variable {t : Tolerance} {cap cap' : List Event}

theorem capturedBits_eight (i : Nat) : capturedBits t cap i 8 = capturedByte t cap i := rfl

theorem capturedBits_succ (i n : Nat) :
    capturedBits t cap i (n + 1) =
      if readBit t cap (2 + 2 * (8 * i + n)) = some true then byteSetBit (capturedBits t cap i n) n
      else capturedBits t cap i n := by
  simp [capturedBits, List.range_succ]

/-- Bit `m` of a byte in the making is 1 exactly when it has been read and read as 1 (R56). -/
theorem byteBit_capturedBits {i n : Nat} (hn : n ≤ 8) (m : Nat) :
    byteBit (capturedBits t cap i n) m = true ↔ m < n ∧ readBit t cap (2 + 2 * (8 * i + m)) = some true := by
  induction n with
  | zero => simp [capturedBits, byteBit]
  | succ n ih =>
    have hbefore := ih (by omega)
    rw [capturedBits_succ]
    by_cases hone : readBit t cap (2 + 2 * (8 * i + n)) = some true
    · rw [if_pos hone, byteBit_byteSetBit _ hn, Bool.or_eq_true, hbefore, decide_eq_true_iff]
      constructor
      · rintro (⟨hm, hread⟩ | rfl)
        · exact ⟨by omega, hread⟩
        · exact ⟨by omega, hone⟩
      · rintro ⟨hm, hread⟩
        exact (Nat.lt_succ_iff_lt_or_eq.mp hm).imp (⟨·, hread⟩) id
    · rw [if_neg hone, hbefore]
      constructor
      · rintro ⟨hm, hread⟩
        exact ⟨by omega, hread⟩
      · rintro ⟨hm, hread⟩
        refine ⟨lt_of_le_of_ne (Nat.le_of_lt_succ hm) ?_, hread⟩
        rintro rfl
        exact hone hread

/-- Adding the weight of a bit that is 0 sets the bit (R90, R92). -/
theorem add_weight_eq_byteSetBit {b : Byte} {j : Nat} (hj : byteBit b j = false) :
    b + BitVec.ofNat 8 (2 ^ j) = byteSetBit b j := by
  have hweight : BitVec.ofNat 8 (2 ^ j) = BitVec.twoPow 8 j :=
    BitVec.eq_of_toNat_eq (by rw [BitVec.toNat_ofNat, BitVec.toNat_twoPow])
  have hdisjoint : b &&& BitVec.twoPow 8 j = 0#8 := by
    rw [BitVec.and_twoPow, show b.getLsbD j = false from hj]
    rfl
  rw [hweight, BitVec.add_eq_or_of_and_eq_zero _ _ hdisjoint, BitVec.twoPow_eq, byteSetBit]

/-! One turn of each loop of `RxDecode` (R90). -/

theorem decodeBits_of_none {n j c : Nat} {b : Byte} (h : readBit t cap c = none) :
    decodeBits t cap (n + 1) j c b = .error j := by
  simp only [decodeBits, h]

theorem decodeBits_of_some {n j c : Nat} {b : Byte} {v : Bool} (h : readBit t cap c = some v) :
    decodeBits t cap (n + 1) j c b =
      decodeBits t cap n (j + 1) (c + 2) (if v then b + BitVec.ofNat 8 (2 ^ j) else b) := by
  cases v <;> simp only [decodeBits, h] <;> rfl

theorem decodeBytes_of_bit_error {n i c j : Nat} {R : Frame} (h : decodeBits t cap 8 0 c 0 = .error j) :
    decodeBytes t cap (n + 1) i c R = .err (.bitTimingMismatch (8 * i + j)) := by
  rw [decodeBytes_succ, h]

theorem decodeBytes_of_allowed {n i c c' : Nat} {R : Frame} {b : Byte} (h : decodeBits t cap 8 0 c 0 = .ok (b, c'))
    (hb : byteAllowed i b = true) :
    decodeBytes t cap (n + 1) i c R = decodeBytes t cap n (i + 1) c' (R.setIfInBounds i b) := by
  rw [decodeBytes_succ, h]
  exact if_pos hb

theorem decodeBytes_of_not_allowed {n i c c' : Nat} {R : Frame} {b : Byte}
    (h : decodeBits t cap 8 0 c 0 = .ok (b, c')) (hb : byteAllowed i b = false) :
    decodeBytes t cap (n + 1) i c R = .err (.fixedByteMismatch i) := by
  rw [decodeBytes_succ, h]
  exact if_neg (Bool.not_eq_true _ ▸ hb)

/-! Several turns of each loop, none of which ends it. -/

/-- The inner loop over bits that are all recognised assembles them (R90). -/
theorem decodeBits_of_bitsRight {i n : Nat} (hn : n ≤ 8) (hbits : BitsRight t cap (8 * i + n)) (rest : Nat) :
    decodeBits t cap (n + rest) 0 (2 + 16 * i) 0 =
      decodeBits t cap rest n (2 + 2 * (8 * i + n)) (capturedBits t cap i n) := by
  induction n generalizing rest with
  | zero =>
    rw [Nat.zero_add, Nat.add_zero, show 2 + 2 * (8 * i) = 2 + 16 * i by omega]
    rfl
  | succ n ih =>
    have hnew : byteBit (capturedBits t cap i n) n = false := by
      rw [← Bool.not_eq_true, byteBit_capturedBits (by omega)]
      exact fun h => absurd h.1 (lt_irrefl n)
    obtain ⟨v, hv⟩ := Option.isSome_iff_exists.mp (hbits (8 * i + n) (by omega))
    rw [Nat.add_right_comm, Nat.add_assoc, ih (by omega) (fun k hk => hbits k (by omega)), decodeBits_of_some hv,
      add_weight_eq_byteSetBit hnew, capturedBits_succ, hv]
    simp only [Option.some.injEq]
    rfl

/-- The outer loop over bytes that are recognised and allowed writes them to the frame (R90). -/
theorem decodeBytes_of_bytesRight {n : Nat} (hn : n ≤ 18) (hbits : BitsRight t cap (8 * n))
    (hchecks : ChecksRight t cap n) (rest : Nat) (R : Frame) :
    ∃ R' : Frame, decodeBytes t cap (n + rest) 0 2 R = decodeBytes t cap rest n (2 + 16 * n) R' ∧
      ∀ m : Fin 18, m.val < n → R'[m.val] = capturedByte t cap m.val := by
  induction n generalizing rest with
  | zero => exact ⟨R, by rw [Nat.zero_add], fun m hm => absurd hm (Nat.not_lt_zero _)⟩
  | succ n ih =>
    obtain ⟨R', hR', hbytes⟩ :=
      ih (by omega) (fun k hk => hbits k (by omega)) (fun i hi => hchecks i (by omega)) (rest + 1)
    have hbyte : decodeBits t cap 8 0 (2 + 16 * n) 0 = .ok (capturedByte t cap n, 2 + 2 * (8 * n + 8)) :=
      decodeBits_of_bitsRight le_rfl hbits 0
    have hpos : 2 + 2 * (8 * n + 8) = 2 + 16 * (n + 1) := by omega
    refine ⟨R'.setIfInBounds n (capturedByte t cap n), ?_, fun m hm => ?_⟩
    · rw [Nat.add_right_comm, Nat.add_assoc, hR', decodeBytes_of_allowed hbyte (hchecks n (Nat.lt_succ_self n)),
        hpos]
    · rw [Vector.getElem_setIfInBounds]
      split
      case isTrue h => rw [h]
      case isFalse h => exact hbytes m (by omega)

/-! ### The result by the first failure -/

/-- A capture without a header fails at it (R90, R142). -/
theorem rxDecode_of_not_headerRight (h : ¬ HeaderRight t cap) : rxDecode t cap = .err .headerMismatch := by
  rw [rxDecode_eq]
  exact if_neg h

/-- Behind the header and `n` bytes that are recognised and allowed, the outer loop is at byte `n` (R90). -/
theorem rxDecode_of_bytesRight {n rest : Nat} (hn : n + rest = 18) (hheader : HeaderRight t cap)
    (hbits : BitsRight t cap (8 * n)) (hchecks : ChecksRight t cap n) :
    ∃ R : Frame, rxDecode t cap = decodeBytes t cap rest n (2 + 16 * n) R ∧
      ∀ m : Fin 18, m.val < n → R[m.val] = capturedByte t cap m.val := by
  obtain ⟨R, hR, hbytes⟩ :=
    decodeBytes_of_bytesRight (by omega) hbits hchecks rest (Vector.replicate Config.nBytes 0)
  rw [hn] at hR
  exact ⟨R, (if_pos hheader).trans hR, hbytes⟩

/-- A capture whose first failure is a bit fails at it (R90, R143). -/
theorem rxDecode_of_bit_not_recognised {k : Nat} (hk : k < 144) (hheader : HeaderRight t cap)
    (hbits : BitsRight t cap k) (hchecks : ChecksRight t cap (k / 8)) (hnone : readBit t cap (2 + 2 * k) = none) :
    rxDecode t cap = .err (.bitTimingMismatch k) := by
  obtain ⟨i, j, hj, rfl⟩ : ∃ i j, j < 8 ∧ k = 8 * i + j := ⟨k / 8, k % 8, by omega, by omega⟩
  obtain ⟨rest, hrest⟩ : ∃ rest, i + (rest + 1) = 18 := ⟨17 - i, by omega⟩
  obtain ⟨later, hlater⟩ : ∃ later, j + (later + 1) = 8 := ⟨7 - j, by omega⟩
  rw [show (8 * i + j) / 8 = i by omega] at hchecks
  obtain ⟨R, hR, -⟩ := rxDecode_of_bytesRight hrest hheader (fun k hk => hbits k (by omega)) hchecks
  have herror := decodeBits_of_bitsRight (Nat.le_of_lt hj) hbits (later + 1)
  rw [hlater, decodeBits_of_none hnone] at herror
  rw [hR, decodeBytes_of_bit_error herror]

/-- A capture whose first failure is a fixed byte fails at it (R90, R144). -/
theorem rxDecode_of_byte_not_allowed {i : Nat} (hi : i < 18) (hheader : HeaderRight t cap)
    (hbits : BitsRight t cap (8 * i + 8)) (hchecks : ChecksRight t cap i)
    (hbyte : byteAllowed i (capturedByte t cap i) = false) : rxDecode t cap = .err (.fixedByteMismatch i) := by
  obtain ⟨rest, hrest⟩ : ∃ rest, i + (rest + 1) = 18 := ⟨17 - i, by omega⟩
  obtain ⟨R, hR, -⟩ := rxDecode_of_bytesRight hrest hheader (fun k hk => hbits k (by omega)) hchecks
  rw [hR, decodeBytes_of_not_allowed (decodeBits_of_bitsRight le_rfl hbits 0) hbyte]

/-- A capture without a failure gives the frame it carries (R90). -/
theorem rxDecode_of_allRight {F : Frame} (hheader : HeaderRight t cap) (hbits : BitsRight t cap 144)
    (hchecks : ChecksRight t cap 18) (hF : ∀ i : Fin 18, F[i.val] = capturedByte t cap i.val) :
    rxDecode t cap = .ok F := by
  obtain ⟨R, hR, hbytes⟩ := rxDecode_of_bytesRight (rest := 0) rfl hheader hbits hchecks
  have hRF : R = F := Vector.ext fun i hi => (hbytes ⟨i, hi⟩ hi).trans (hF ⟨i, hi⟩).symm
  rw [hR, hRF]
  rfl

/-! ### How far a decode looks -/

/-- A bit is two queries on the same two events (R55). -/
theorem readBit_of_take_eq {n c : Nat} (h : cap'.take n = cap.take n) (hc : c + 2 ≤ n) :
    readBit t cap' c = readBit t cap c := by
  simp only [readBit_eq, itemMatches_of_take_eq h hc]

/-- A byte that is read takes its events, two for each bit (R90). -/
theorem position_of_decodeBits {n j c c' : Nat} {b b' : Byte} (h : decodeBits t cap n j c b = .ok (b', c')) :
    c' = c + 2 * n := by
  induction n generalizing j c b with
  | zero =>
    cases h
    rfl
  | succ n ih =>
    cases hv : readBit t cap c with
    | none =>
      rw [decodeBits_of_none hv] at h
      cases h
    | some v =>
      rw [decodeBits_of_some hv] at h
      have hpos := ih h
      omega

/-- `n` bits are read from `2n` events (R90, R99). -/
theorem decodeBits_of_take_eq {N n j c : Nat} {b : Byte} (h : cap'.take N = cap.take N) (hc : c + 2 * n ≤ N) :
    decodeBits t cap' n j c b = decodeBits t cap n j c b := by
  induction n generalizing j c b with
  | zero => rfl
  | succ n ih =>
    have hread : readBit t cap' c = readBit t cap c := readBit_of_take_eq h (by omega)
    cases hv : readBit t cap c with
    | none => rw [decodeBits_of_none hv, decodeBits_of_none (hread.trans hv)]
    | some v => rw [decodeBits_of_some hv, decodeBits_of_some (hread.trans hv), ih (by omega)]

/-- `n` bytes are read from `16n` events (R90, R99). -/
theorem decodeBytes_of_take_eq {N n i c : Nat} {R : Frame} (h : cap'.take N = cap.take N) (hc : c + 16 * n ≤ N) :
    decodeBytes t cap' n i c R = decodeBytes t cap n i c R := by
  induction n generalizing i c R with
  | zero => rfl
  | succ n ih =>
    have hread : decodeBits t cap' 8 0 c 0 = decodeBits t cap 8 0 c 0 := decodeBits_of_take_eq h (by omega)
    cases hbits : decodeBits t cap 8 0 c 0 with
    | error j => rw [decodeBytes_of_bit_error hbits, decodeBytes_of_bit_error (hread.trans hbits)]
    | ok bc =>
      have hpos := position_of_decodeBits hbits
      cases hb : byteAllowed i bc.1 with
      | false => rw [decodeBytes_of_not_allowed hbits hb, decodeBytes_of_not_allowed (hread.trans hbits) hb]
      | true =>
        rw [decodeBytes_of_allowed hbits hb, decodeBytes_of_allowed (hread.trans hbits) hb, ih (by omega)]

/-- A decode looks at 290 events (R99). -/
theorem rxDecode_of_take_eq (h : cap'.take 290 = cap.take 290) : rxDecode t cap' = rxDecode t cap := by
  rw [rxDecode_eq, rxDecode_eq, itemMatches_of_take_eq h (by omega), decodeBytes_of_take_eq h (by omega)]

end

/-- Settles O56: a query beyond the end is false, so the first missing event is the first failure. -/
theorem shortCapturesFail : Obligations.ShortCapturesFail := by
  intro t cap
  refine ⟨fun c m sp => itemMatches_of_length_le, fun hlen => ?_, fun k hk hlen hheader hbits hchecks => ?_,
    fun d hlen => ?_⟩
  · apply rxDecode_of_not_headerRight
    rw [HeaderRight, itemMatches_of_length_le (by omega)]
    exact Bool.false_ne_true
  · apply rxDecode_of_bit_not_recognised hk hheader hbits hchecks
    have hend (sp : Nat) : itemMatches t cap (2 + 2 * k) 430 sp = false := itemMatches_of_length_le (by omega)
    simp [readBit_eq, hend]
  · apply rxDecode_of_take_eq
    rw [List.take_append_of_le_length (by omega)]

/-! ### The events of a train -/

section
variable {l m es : List Event} {e : Event} {n k p : Nat}

/-- An event of a stretch stands at its place in the whole. -/
theorem StandsAt.getElem? (h : StandsAt l n es) (he : es[k]? = some e) (hp : p = n + k) : l[p]? = some e := by
  obtain ⟨pre, rest, rfl, rfl⟩ := h
  obtain ⟨hk, -⟩ := List.getElem?_eq_some_iff.mp he
  rw [hp, List.getElem?_append_right (by omega), Nat.add_sub_cancel_left, List.getElem?_append_left hk, he]

/-- A stretch is what is left after dropping what stands before it and behind it. -/
theorem StandsAt.take_drop (h : StandsAt l n es) : (l.drop n).take es.length = es := by
  obtain ⟨pre, rest, rfl, rfl⟩ := h
  simp

/-- Marks stand at the even positions and spaces at the odd ones (R32, R79). -/
def Alternates (l : List Event) : Prop := ∀ n e, l[n]? = some e → e.kindBit = if n % 2 = 0 then 1 else 0

theorem Alternates.append (hl : Alternates l) (heven : l.length % 2 = 0) (hm : Alternates m) : Alternates (l ++ m) := by
  intro n e he
  by_cases hn : n < l.length
  · rw [List.getElem?_append_left hn] at he
    exact hl n e he
  · rw [List.getElem?_append_right (by omega)] at he
    rw [hm _ e he]
    congr 2
    omega

theorem alternates_symbolEvents (y : Symbol) : Alternates (symbolEvents y) := by
  cases y <;> rintro (_ | _ | n) e ⟨⟩ <;> rfl

/-- Pairs that alternate do so one after the other. -/
theorem alternates_flatMap_pairs {g : Nat → List Event} (hg : ∀ k, (g k).length = 2) (halt : ∀ k, Alternates (g k))
    (n : Nat) : Alternates ((List.range n).flatMap g) := by
  induction n with
  | zero =>
    intro n e he
    cases he
  | succ n ih =>
    rw [List.range_succ, List.flatMap_append, List.flatMap_singleton]
    exact ih.append (by rw [length_flatMap_pairs hg]; omega) (halt n)

/-- A list that alternates from a mark on has as many spaces as marks, or one mark more (R79). -/
theorem Alternates.countP (h : Alternates l) :
    l.countP (fun e => e.kindBit == 1) = (l.length + 1) / 2 ∧ l.countP (fun e => e.kindBit == 0) = l.length / 2 := by
  induction l using List.reverseRecOn with
  | nil => exact ⟨rfl, rfl⟩
  | append_singleton l e ih =>
    have hinit : Alternates l := fun n x hx => h n x (by
      obtain ⟨hn, -⟩ := List.getElem?_eq_some_iff.mp hx
      rw [List.getElem?_append_left hn, hx])
    have hlast : e.kindBit = if l.length % 2 = 0 then 1 else 0 := h l.length e (by simp)
    obtain ⟨hmarks, hspaces⟩ := ih hinit
    rw [List.countP_append, List.countP_append, hmarks, hspaces, List.countP_singleton, List.countP_singleton, hlast,
      List.length_append, List.length_singleton]
    by_cases heven : l.length % 2 = 0 <;> simp [heven] <;> omega

end

/-- The events of a data bit in figures (R54). -/
theorem bitEvents_eq (F : Frame) (k : Nat) :
    bitEvents F k = [.mark 430, .space (if wireBit F k then 1250 else 390)] := by
  unfold bitEvents
  cases wireBit F k <;> rfl

theorem alternates_repetition (F : Frame) : Alternates (repetition F) := by
  rw [repetition_eq_bits]
  exact (alternates_symbolEvents .header).append rfl
    (alternates_flatMap_pairs (length_bitEvents F) (fun _ => alternates_symbolEvents _) 144)

theorem alternates_txTrain (F : Frame) : Alternates (txTrain F) := by
  have hrep : Alternates (repetition F) := alternates_repetition F
  have hlen : (repetition F).length = 290 := length_repetition F
  rw [txTrain_eq]
  refine Alternates.append (Alternates.append (hrep.append (by rw [hlen]) (alternates_symbolEvents .gap)) ?_ hrep) ?_
    (alternates_symbolEvents .footer) <;>
  simp [hlen, symbolEvents]

/-- Every event of a train is one of a symbol (R51, R70). -/
theorem exists_symbol_of_mem_txTrain {F : Frame} {e : Event} (he : e ∈ txTrain F) : ∃ y, e ∈ symbolEvents y := by
  have hrep (he : e ∈ repetition F) : ∃ y, e ∈ symbolEvents y := by
    rw [repetition_eq_bits, List.mem_append, List.mem_flatMap] at he
    obtain he | ⟨k, -, he⟩ := he
    · exact ⟨_, he⟩
    · exact ⟨_, he⟩
  rw [txTrain_eq, List.mem_append, List.mem_append, List.mem_append] at he
  obtain ((he | he) | he) | he := he
  · exact hrep he
  · exact ⟨_, he⟩
  · exact hrep he
  · exact ⟨_, he⟩

/-- The six durations (R18, R50). -/
theorem dur_mem_of_mem_symbolEvents (y : Symbol) :
    ∀ e ∈ symbolEvents y, e.dur ∈ [3500, 1700, 430, 1250, 390, 17500] := by
  cases y <;> decide

/-- A bit of the frame integer is the data bit at its wire position (R6). -/
theorem getLsbD_frameInt_eq_wireBit (F : Frame) {k : Nat} (hk : k < 144) :
    (frameInt F).getLsbD k = wireBit F k := by
  have hbyte : k / 8 < 18 := by omega
  have h := getLsbD_frameInt F hbyte (Nat.mod_lt k (by decide))
  rw [Nat.div_add_mod] at h
  rw [h, wireBit_eq]
  exact (frameBit_of_fin F ⟨k / 8, hbyte⟩ _).symm

/-- The item of bit `k` of the frame integer stands behind the header and `k` items, in each repetition (R70, R79). -/
theorem standsAt_bitOfTrain (F : Frame) (r : Fin 2) {k : Nat} (hk : k < 144) :
    StandsAt (txTrain F) (292 * r.val + (2 + 2 * k))
      [.mark 430, .space (if (frameInt F).getLsbD k then 1250 else 390)] := by
  rw [getLsbD_frameInt_eq_wireBit F hk, ← bitEvents_eq]
  exact (standsAt_repetition F r).trans (standsAt_bit F hk)

/-- The spaces of the first repetition give every bit of the frame back (R79). -/
theorem txTrain_injective {F G : Frame} (h : txTrain F = txTrain G) : F = G := by
  have hint : frameInt F = frameInt G := by
    apply BitVec.eq_of_getLsbD_eq
    intro k hk
    have hF := (standsAt_bitOfTrain F 0 hk).getElem? (k := 1) rfl rfl
    have hG := (standsAt_bitOfTrain G 0 hk).getElem? (k := 1) rfl rfl
    rw [h, hG] at hF
    cases hbF : (frameInt F).getLsbD k <;> cases hbG : (frameInt G).getLsbD k <;> simp [hbF, hbG] at hF ⊢
  rw [← frameOfPort_frameInt F, hint, frameOfPort_frameInt]

/-- The second repetition has the events of the first (R53, R79). -/
theorem take_drop_txTrain (F : Frame) : ((txTrain F).drop 292).take 290 = (txTrain F).take 290 := by
  have hfirst := (standsAt_repetition F 0).take_drop
  have hsecond := (standsAt_repetition F 1).take_drop
  rw [length_repetition] at hfirst hsecond
  exact hsecond.trans hfirst.symm

/-- Settles O50: the length, the stretches at their places, the alternation, and the symbols' durations. -/
theorem trainFacts : Obligations.TrainFacts := by
  refine ⟨fun F => ?_, fun F G => txTrain_injective⟩
  obtain ⟨hmarks, hspaces⟩ := (alternates_txTrain F).countP
  rw [length_txTrain F] at hmarks hspaces
  have hheader (r : Fin 2) := (standsAt_repetition F r).trans (standsAt_header F)
  have hgap := standsAt_gap F
  refine ⟨length_txTrain F, hmarks, hspaces, (hheader 0).getElem? (k := 0) rfl rfl,
    (hheader 0).getElem? (k := 1) rfl rfl, fun k hk => ?_, hgap.getElem? (k := 0) rfl rfl,
    hgap.getElem? (k := 1) rfl rfl, (hheader 1).getElem? (k := 0) rfl rfl, (hheader 1).getElem? (k := 1) rfl rfl,
    (standsAt_footer F).getElem? (k := 0) rfl rfl, take_drop_txTrain F, alternates_txTrain F, fun e he => ?_⟩
  · have hbit (r : Fin 2) := standsAt_bitOfTrain F r hk
    exact ⟨(hbit 0).getElem? (k := 0) rfl (by omega), (hbit 0).getElem? (k := 1) rfl (by omega),
      (hbit 1).getElem? (k := 0) rfl (by omega), (hbit 1).getElem? (k := 1) rfl (by omega)⟩
  · obtain ⟨y, hy⟩ := exists_symbol_of_mem_txTrain he
    exact dur_mem_of_mem_symbolEvents y e hy

/-! ### The loopback -/

section
variable {t : Tolerance} {cap : List Event} {F : Frame}

/-- An item with right nominal durations is recognised (R36, R38). -/
theorem itemMatches_of_standsAt {c m sp : Nat} (h : StandsAt cap c [.mark m, .space sp])
    (hm : accepts t m m = true) (n : Nat) : itemMatches t cap c m n = accepts t n sp := by
  have hmark : cap[c]? = some (.mark m) := h.getElem? (k := 0) rfl rfl
  have hspace : cap[c + 1]? = some (.space sp) := h.getElem? (k := 1) rfl rfl
  rw [itemMatches, hmark, hspace]
  exact (congrArg (· && accepts t n sp) hm).trans (Bool.true_and _)

/-- A data bit that stands in a capture is read as it is: a one passes the first test by `Match.refl`, a zero fails it by
`Match.sep` and passes the second by `Match.refl` (R38, R55). -/
theorem readBit_of_standsAt (hrefl : MatchRefl t) (hsep : MatchSep t) {c k : Nat} (h : StandsAt cap c (bitEvents F k)) :
    readBit t cap c = some (wireBit F k) := by
  have hmark : accepts t 430 430 = true := hrefl 430 (by decide)
  have hone : accepts t 1250 1250 = true := hrefl 1250 (by decide)
  have hzero : accepts t 390 390 = true := hrefl 390 (by decide)
  have hnotOne : accepts t 1250 390 = false := hsep
  rw [bitEvents_eq] at h
  rw [readBit_eq, itemMatches_of_standsAt h hmark, itemMatches_of_standsAt h hmark]
  cases wireBit F k <;> simp [hone, hzero, hnotOne]

/-- A byte whose bits are read is the byte the capture carries (R56). -/
theorem capturedByte_eq_of_bits {i : Nat} {b : Byte}
    (h : ∀ j < 8, readBit t cap (2 + 2 * (8 * i + j)) = some (byteBit b j)) : capturedByte t cap i = b := by
  apply BitVec.eq_of_getLsbD_eq
  intro j hj
  rw [Bool.eq_iff_iff, ← capturedBits_eight]
  refine (byteBit_capturedBits le_rfl j).trans ?_
  simp [hj, h j hj, byteBit]

/-- What a decode finds in a capture that begins with one repetition of a frame (R107). -/
theorem reads_of_standsAt_repetition (hrefl : MatchRefl t) (hsep : MatchSep t) (h : StandsAt cap 0 (repetition F)) :
    HeaderRight t cap ∧ BitsRight t cap 144 ∧ ∀ i : Fin 18, capturedByte t cap i.val = F[i.val] := by
  have hbit {k : Nat} (hk : k < 144) : readBit t cap (2 + 2 * k) = some (wireBit F k) := by
    have hat := h.trans (standsAt_bit F hk)
    rw [Nat.zero_add] at hat
    exact readBit_of_standsAt hrefl hsep hat
  refine ⟨?_, fun k hk => by rw [hbit hk]; rfl, fun i => capturedByte_eq_of_bits fun j hj => ?_⟩
  · have hat := h.trans (standsAt_header F)
    exact (itemMatches_of_standsAt hat (hrefl 3500 (by decide)) 1700).trans (hrefl 1700 (by decide))
  · rw [hbit (by omega)]
    exact congrArg some (wireBit_wireIndex F i ⟨j, hj⟩)

/-- A capture that begins with one repetition of a frame with right fixed bytes decodes to the frame (R107). -/
theorem rxDecode_of_fixedBytesRight (hrefl : MatchRefl t) (hsep : MatchSep t) (h : StandsAt cap 0 (repetition F))
    (hF : FixedBytesRight F) : rxDecode t cap = .ok F := by
  obtain ⟨hheader, hbits, hbytes⟩ := reads_of_standsAt_repetition hrefl hsep h
  refine rxDecode_of_allRight hheader hbits (fun i hi => ?_) fun i => (hbytes i).symm
  rw [hbytes ⟨i, hi⟩]
  exact hF ⟨i, hi⟩

/-- A capture that begins with one repetition of a frame fails at the first wrong fixed byte (R107). -/
theorem rxDecode_of_first_wrong_byte (hrefl : MatchRefl t) (hsep : MatchSep t) (h : StandsAt cap 0 (repetition F))
    {i : Fin 18} (hwrong : byteAllowed i.val F[i.val] = false)
    (hfirst : ∀ m : Fin 18, m.val < i.val → byteAllowed m.val F[m.val] = true) :
    rxDecode t cap = .err (.fixedByteMismatch i.val) := by
  obtain ⟨hheader, hbits, hbytes⟩ := reads_of_standsAt_repetition hrefl hsep h
  refine rxDecode_of_byte_not_allowed i.isLt hheader (fun k hk => hbits k (by omega)) (fun m hm => ?_) ?_
  · have hm18 : m < 18 := hm.trans i.isLt
    rw [hbytes ⟨m, hm18⟩]
    exact hfirst ⟨m, hm18⟩ hm
  · rw [hbytes i, hwrong]

/-- The captures of the loopback begin with one repetition: the train, its second half, and a repetition with anything
behind it (R80, R107). -/
theorem standsAt_repetition_of_loopback
    (h : cap = txTrain F ∨ cap = (txTrain F).drop 292 ∨ ∃ T, cap = repetition F ++ T) :
    StandsAt cap 0 (repetition F) := by
  obtain rfl | rfl | ⟨T, rfl⟩ := h
  · exact standsAt_repetition F 0
  · obtain ⟨pre, rest, hpre, htrain⟩ := standsAt_repetition F 1
    exact ⟨[], rest, rfl, by rw [htrain]; exact List.drop_left' hpre⟩
  · exact ⟨[], T, rfl, rfl⟩

/-- A byte that `FIXED` has no entry for can be replaced (R93, R104). -/
theorem fixedBytesRight_set (hF : FixedBytesRight F) {i : Fin 18} (hi : i.val ∉ Config.fixedPos) (v : Byte) :
    FixedBytesRight (F.set i.val v i.isLt) := by
  intro m
  by_cases hm : m = i
  · have hnone : fixedAt m.val = none := by
      rw [hm, ← Option.not_isSome_iff_eq_none, isSome_fixedAt_iff]
      exact hi
    rw [byteAllowed, hnone]
  · have hne : i.val ≠ m.val := fun h => hm (Fin.ext h.symm)
    rw [Vector.getElem_set_ne _ _ hne]
    exact hF m

/-- No unchecked byte is one of `FIXED_POS` (R104). -/
theorem unchecked_not_mem_fixedPos : ∀ i ∈ [5, 6, 7, 8, 9, 10, 11, 12, 14, 15, 17], i ∉ Config.fixedPos := by decide

end

/-- Settles O57: each capture begins with one repetition, whose bits are read as they are. -/
theorem loopbackRoundTrip : Obligations.LoopbackRoundTrip := by
  intro t F hrefl hsep
  refine ⟨fun cap hcap => ?_, fun i v hF hi => ?_⟩
  · have hat := standsAt_repetition_of_loopback hcap
    exact ⟨rxDecode_of_fixedBytesRight hrefl hsep hat, fun i => rxDecode_of_first_wrong_byte hrefl hsep hat⟩
  · exact rxDecode_of_fixedBytesRight hrefl hsep (standsAt_repetition _ 0)
      (fixedBytesRight_set hF (unchecked_not_mem_fixedPos i.val hi) v)

/-! ### The ends of the two operations -/

/-- Settles O21: the strobe and the position, read off. -/
theorem txPerformEndsTheSend : Obligations.TxPerformEndsTheSend := fun _ => ⟨_, rfl, rfl, rfl⟩

/-- Settles O30: the success action, read off. -/
theorem rxDoneHandsOver : Obligations.RxDoneHandsOver := fun _ => rfl

/-! ### The frame consumer -/

section
variable {s t : State}

/-- `RX.HDR` hands nothing over (R91). -/
theorem handed_of_rxHdr (h : execRxHdr s = .next t) : t.handed = s.handed := by
  unfold execRxHdr at h
  split at h
  case h_1 s' hs' =>
    obtain ⟨-, rfl⟩ := expectItem_eq_some.mp hs'
    cases h
    rfl
  case h_2 =>
    cases h
    rfl

/-- `RX.BIT` hands nothing over (R92). -/
theorem handed_of_rxBit (h : execRxBit s = .next t) : t.handed = s.handed := by
  obtain ⟨-, h'⟩ | ⟨-, -, h'⟩ | ⟨-, -, h'⟩ := execRxBit_cases s <;>
  · rw [h'] at h
    cases h
    simp

/-- `RX.CHK` hands over nothing, or after byte 17 what the success action does (R93, R94). -/
theorem handedOver_of_rxChk (h : execRxChk s = .next t) :
    t.handed = s.handed ∨ t.handed = s.handed ++ [t.rxf] ∧ t.rxStatus = .ok ∧ t.rxPhase = .idle := by
  obtain ⟨-, -, -, h'⟩ | ⟨-, h'⟩ := execRxChk_cases s <;> rw [h'] at h <;> cases h
  · exact .inl rfl
  · obtain ⟨-, h'⟩ | ⟨-, h'⟩ := passCheck_cases s <;> rw [h']
    · exact .inl rfl
    · exact .inr ⟨rfl, rfl, rfl⟩

/-- Of the deserializer's micro-operations, only the check of byte 17 and `RX.DONE` hand anything over (R40, R106). -/
theorem handedOver_of_rxMicroOp {i : Instr} (hi : i ∈ rxMicroOps) (h : exec i s = .next t) :
    t.handed = s.handed ∨
      (i = .rxChk ∨ i = .rxDone) ∧ t.handed = s.handed ++ [t.rxf] ∧ t.rxStatus = .ok ∧ t.rxPhase = .idle := by
  cases i with
  | rxIdle =>
    cases h
    exact .inl rfl
  | rxHdr => exact .inl (handed_of_rxHdr h)
  | rxBit => exact .inl (handed_of_rxBit h)
  | rxChk => exact (handedOver_of_rxChk h).imp id (⟨.inl rfl, ·⟩)
  | rxDone =>
    cases h
    exact .inr ⟨.inr rfl, rfl, rfl, rfl⟩
  | _ => simp [rxMicroOps] at hi

/-- Under the invariant, status `OK` stands only between operations, with what a success leaves (R39, R103). -/
theorem resultLegal_of_ok (h : RxPosRight s) (hok : s.rxStatus = .ok) : ResultLegal s := by
  have hnone (hcleared : ResultCleared s) : ResultLegal s := by
    obtain ⟨hstatus, -⟩ := hcleared
    rw [hstatus] at hok
    cases hok
  cases hph : s.rxPhase <;> simp only [RxPosRight, hph] at h
  case idle =>
    obtain ⟨-, -, -, hresult⟩ := h
    exact hresult
  case hdr =>
    obtain ⟨-, -, -, hcleared⟩ := h
    exact hnone hcleared
  case bit | chk =>
    obtain ⟨hcleared, -⟩ := h
    exact hnone hcleared

/-- A read of `rx_frame` that does not fault finds status `OK` and shows `RXF` (R103). -/
theorem rxFramePort_eq_ok {w : BitVec 144} : s.rxFramePort = .ok w ↔ s.rxStatus = .ok ∧ frameInt s.rxf = w := by
  by_cases h : s.rxStatus = .ok
  · simp [(consumer_reads_of_ok h).1, h]
  · simp [(consumer_faults_of_not_ok h).1, h]

end

/-- Settles O38: of all that an instruction can do, only the deserializer's micro-operations hand anything over. -/
theorem onlySuccessHandsOver : Obligations.OnlySuccessHandsOver := by
  intro i s t h
  cases did_of_exec h with
  | rxMicroOp hi => exact handedOver_of_rxMicroOp hi h
  | txMicroOp => exact .inl rfl
  | symbol | frame | txSend | rxDecode | cmdNone => simp

/-- Settles O47: status `OK` carries the invariant's facts about `RXF`. -/
theorem readableFrameIsValid : Obligations.ReadableFrameIsValid := by
  rintro s w ⟨-, -, hpos, -⟩ hw
  obtain ⟨hok, rfl⟩ := rxFramePort_eq_ok.mp hw
  have hresult := resultLegal_of_ok hpos hok
  simp only [ResultLegal, hok] at hresult
  obtain ⟨-, -, ⟨-, hallowed⟩, hlast⟩ := hresult
  rw [frameMatches_iff, frameOfPort_frameInt]
  exact ⟨fun m => hallowed m m.isLt, hlast⟩

end Sys2Proof.Machine
end

section
/-! PROOFS. The statements of 30_encoding.md: the symbol rows and `TX.BIT` (R50, R51, R54, R73), the idle phases (R58), the
pseudo-operations (R64), which result a capture gives and how far a decode looks (R90, R99, R107, R147), and the bits of a
decoded byte (R56). -/

namespace Sys2Proof.Machine

/-! ### Rows that emit, and rows that do nothing -/

/-- Settles O14: each row sends the events of its symbol and uses up the placed word, read off. -/
theorem symbolsEmitNominalEvents : Obligations.SymbolsEmitNominalEvents := fun _ => ⟨rfl, rfl, rfl, rfl, rfl⟩

/-- Emitting a data bit, in figures (R33, R54). -/
theorem emitSymbol_bitSymbol (b : Bool) (s : State) :
    s.emitSymbol (bitSymbol b) =
      { s with txOut := s.txOut ++ [.event (.mark 430), .event (.space (if b then 1250 else 390))] } := by
  cases b <;> rfl

/-- Settles O18: the item is the bit's, and the four successors are those of `advanceTx_cases`. -/
theorem txBitEmitsOneBit : Obligations.TxBitEmitsOneBit := by
  intro s
  have hexec : exec .txBit s = .next (s.emitSymbol (bitSymbol (s.readTxfBit s.txByte s.txBit))).advanceTx := rfl
  obtain ⟨hj, h⟩ | ⟨hj, hi, h⟩ | ⟨hj, hi, hr, h⟩ | ⟨hj, hi, hr, h⟩ :=
    advanceTx_cases (s.emitSymbol (bitSymbol (s.readTxfBit s.txByte s.txBit)))
  all_goals
    simp only [emitSymbol_txBit, emitSymbol_txByte, emitSymbol_txRep] at *
    rw [hexec, h, emitSymbol_bitSymbol, readTxfBit_eq]
  · simp [hj, State.setTxPc]
  · simp [hj, hi, State.setTxPc]
  · simp [hj, hi, hr, State.setTxPc]
  · simp [hj, hi, hr, State.setTxPc]

/-- Settles O7: the idle rows are read off; an idle block with nothing pending fetches `CMD.NONE`. -/
theorem idleExecutesNothing : Obligations.IdleExecutesNothing := by
  refine fun s => ⟨rfl, rfl, fun hn ht hr => ?_⟩
  rw [step_of_fetch (fetch_of_bothIdle hn ht hr), beforeExec_of_idle (.inl ht)]
  rfl

/-! ### The pseudo-operations -/

/-- The events of a string of symbols are those of its parts, in order (R64). -/
theorem eventsOf_append (xs ys : List Symbol) : eventsOf (xs ++ ys) = eventsOf xs ++ eventsOf ys := List.flatMap_append

theorem eventsOf_singleton (y : Symbol) : eventsOf [y] = symbolEvents y :=
  List.flatMap_singleton symbolEvents y

/-- The bytes of a frame by index (R6). -/
theorem toList_eq_map_range (F : Frame) : F.toList = (List.range 18).map fun i => F[i]?.getD 0 := by
  apply List.ext_getElem
  · simp [Config.nBytes]
  · intro i hi _
    have hi18 : i < 18 := by simpa [Config.nBytes] using hi
    simp [Config.nBytes, hi18]

/-- `BYTE` of the byte at a frame index: the symbols of its bits (R64). -/
theorem byteSymbols_getD (F : Frame) {i : Nat} (hi : i < 18) :
    byteSymbols (F[i]?.getD 0) = (List.range 8).map fun j => bitSymbol (frameBit F i j) := by
  simp only [byteSymbols, frameBit_of_fin F ⟨i, hi⟩]
  simp [Config.nBytes, hi]

/-- `REP` expands to one repetition (R64, R70). -/
theorem eventsOf_repSymbols (F : Frame) : eventsOf (repSymbols F) = repetition F := by
  have hbytes : F.toList.flatMap byteSymbols =
      (List.range 18).flatMap fun i => (List.range 8).map fun j => bitSymbol (frameBit F i j) := by
    rw [toList_eq_map_range, List.flatMap_map]
    exact List.flatMap_congr fun i hi => byteSymbols_getD F (List.mem_range.mp hi)
  rw [eventsOf, repSymbols, hbytes, List.flatMap_cons, List.flatMap_assoc]
  simp only [List.flatMap_map]
  rfl

/-- `TRAIN` expands to `TxTrain` (R64, R70). -/
theorem eventsOf_trainSymbols (F : Frame) : eventsOf (trainSymbols F) = txTrain F := by
  simp only [trainSymbols, eventsOf_append, eventsOf_singleton, eventsOf_repSymbols, txTrain_eq]

/-- Settles O51: both expansions, and the length of a repetition. -/
theorem pseudoOperationsExpand : Obligations.PseudoOperationsExpand :=
  fun F => ⟨eventsOf_trainSymbols F, eventsOf_repSymbols F, by rw [eventsOf_repSymbols, length_repetition]⟩

/-! ### Which result a capture gives -/

/-- A result is right for a capture when it is the first failure in wire order, or the frame the capture carries (R90,
R147). -/
def ResultRight (t : Tolerance) (cap : List Event) : RxResult → Prop
  | .err .headerMismatch => ¬ HeaderRight t cap
  | .err (.bitTimingMismatch k) =>
    k < 144 ∧ HeaderRight t cap ∧ BitsRight t cap k ∧ readBit t cap (2 + 2 * k) = none ∧ ChecksRight t cap (k / 8)
  | .err (.fixedByteMismatch i) =>
    i < 18 ∧ HeaderRight t cap ∧ BitsRight t cap (8 * i + 8) ∧ ChecksRight t cap i ∧
      byteAllowed i (capturedByte t cap i) = false
  | .ok R =>
    HeaderRight t cap ∧ BitsRight t cap 144 ∧ ChecksRight t cap 18 ∧ ∀ i : Fin 18, R[i.val] = capturedByte t cap i.val

section
variable {t : Tolerance} {cap cap' : List Event}

/-- `RxDecode` gives a result that is right. -/
theorem rxDecode_of_resultRight {r : RxResult} (h : ResultRight t cap r) : rxDecode t cap = r := by
  match r, h with
  | .err .headerMismatch, hheader => exact rxDecode_of_not_headerRight hheader
  | .err (.bitTimingMismatch _), ⟨hk, hheader, hbits, hnone, hchecks⟩ =>
    exact rxDecode_of_bit_not_recognised hk hheader hbits hchecks hnone
  | .err (.fixedByteMismatch _), ⟨hi, hheader, hbits, hchecks, hbyte⟩ =>
    exact rxDecode_of_byte_not_allowed hi hheader hbits hchecks hbyte
  | .ok _, ⟨hheader, hbits, hchecks, hR⟩ => exact rxDecode_of_allRight hheader hbits hchecks hR

/-- One more bit is recognised. -/
theorem bitsRight_succ {n : Nat} (h : BitsRight t cap n) (hn : (readBit t cap (2 + 2 * n)).isSome = true) :
    BitsRight t cap (n + 1) := fun k hk => by
  obtain hk | rfl := Nat.lt_succ_iff_lt_or_eq.mp hk
  · exact h k hk
  · exact hn

/-- One more byte is allowed. -/
theorem checksRight_succ {n : Nat} (h : ChecksRight t cap n) (hn : byteAllowed n (capturedByte t cap n) = true) :
    ChecksRight t cap (n + 1) := fun i hi => by
  obtain hi | rfl := Nat.lt_succ_iff_lt_or_eq.mp hi
  · exact h i hi
  · exact hn

/-- Behind `n` right bytes, the first `m` bits of the next are recognised, or a result is right. -/
theorem bitsRight_or_exists_resultRight {n m : Nat} (hn : n < 18) (hm : m ≤ 8) (hheader : HeaderRight t cap)
    (hbits : BitsRight t cap (8 * n)) (hchecks : ChecksRight t cap n) :
    BitsRight t cap (8 * n + m) ∨ ∃ r, ResultRight t cap r := by
  induction m with
  | zero => exact .inl hbits
  | succ m ih =>
    obtain hright | hfailed := ih (by omega)
    · cases hread : readBit t cap (2 + 2 * (8 * n + m)) with
      | some v => exact .inl (bitsRight_succ hright (Option.isSome_iff_exists.mpr ⟨v, hread⟩))
      | none =>
        have hbyte : (8 * n + m) / 8 = n := by omega
        exact .inr ⟨.err (.bitTimingMismatch (8 * n + m)), by omega, hheader, hright, hread, by rwa [hbyte]⟩
    · exact .inr hfailed

/-- Behind the header, the first `n` bytes are recognised and allowed, or a result is right. -/
theorem bytesRight_or_exists_resultRight {n : Nat} (hn : n ≤ 18) (hheader : HeaderRight t cap) :
    (BitsRight t cap (8 * n) ∧ ChecksRight t cap n) ∨ ∃ r, ResultRight t cap r := by
  induction n with
  | zero => exact .inl ⟨fun k hk => absurd hk (Nat.not_lt_zero k), fun i hi => absurd hi (Nat.not_lt_zero i)⟩
  | succ n ih =>
    obtain ⟨hbits, hchecks⟩ | hfailed := ih (by omega)
    · obtain hbits | hfailed := bitsRight_or_exists_resultRight hn le_rfl hheader hbits hchecks
      · cases hbyte : byteAllowed n (capturedByte t cap n) with
        | true => exact .inl ⟨hbits, checksRight_succ hchecks hbyte⟩
        | false => exact .inr ⟨.err (.fixedByteMismatch n), hn, hheader, hbits, hchecks, hbyte⟩
      · exact .inr hfailed
    · exact .inr hfailed

/-- For every capture some result is right. -/
theorem exists_resultRight (t : Tolerance) (cap : List Event) : ∃ r, ResultRight t cap r := by
  by_cases hheader : HeaderRight t cap
  · obtain ⟨hbits, hchecks⟩ | hfailed := bytesRight_or_exists_resultRight le_rfl hheader
    · exact ⟨.ok (Vector.ofFn fun i => capturedByte t cap i.val), hheader, hbits, hchecks, fun i => by simp⟩
    · exact hfailed
  · exact ⟨.err .headerMismatch, hheader⟩

/-- `RxDecode` gives exactly the result that is right (R90, R147). -/
theorem rxDecode_eq_iff {r : RxResult} : rxDecode t cap = r ↔ ResultRight t cap r := by
  constructor
  · rintro rfl
    obtain ⟨r, hr⟩ := exists_resultRight t cap
    rwa [rxDecode_of_resultRight hr]
  · exact rxDecode_of_resultRight

/-! ### What captures with the same beginning share -/

section
variable {N : Nat} (h : cap'.take N = cap.take N)
include h

theorem headerRight_of_take_eq (hN : 2 ≤ N) (hheader : HeaderRight t cap) : HeaderRight t cap' :=
  (itemMatches_of_take_eq h hN).trans hheader

theorem bitsRight_of_take_eq {n : Nat} (hN : 2 + 2 * n ≤ N) (hbits : BitsRight t cap n) : BitsRight t cap' n :=
  fun k hk => by
    rw [readBit_of_take_eq h (by omega)]
    exact hbits k hk

/-- Byte `i` lies in the first `18 + 16i` events (R56). -/
theorem capturedByte_of_take_eq {i : Nat} (hN : 18 + 16 * i ≤ N) : capturedByte t cap' i = capturedByte t cap i := by
  refine List.foldl_ext _ _ _ fun b j hj => ?_
  have hj8 : j < 8 := List.mem_range.mp hj
  rw [readBit_of_take_eq h (by omega)]

theorem checksRight_of_take_eq {n : Nat} (hN : 2 + 16 * n ≤ N) (hchecks : ChecksRight t cap n) : ChecksRight t cap' n :=
  fun i hi => by
    rw [capturedByte_of_take_eq h (by omega)]
    exact hchecks i hi

end
end

/-- Settles O58: a failure is a fact about the events up to the failing item, which both captures share. -/
theorem decodeLooksNoFurther : Obligations.DecodeLooksNoFurther := by
  refine fun t cap cap' => ⟨rxDecode_of_take_eq, fun k hk h => ?_, fun i hi h => ?_⟩
  · obtain ⟨hlt, hheader, hbits, hnone, hchecks⟩ := rxDecode_eq_iff.mp hk
    exact rxDecode_eq_iff.mpr ⟨hlt, headerRight_of_take_eq h (by omega) hheader,
      bitsRight_of_take_eq h (by omega) hbits, (readBit_of_take_eq h (by omega)).trans hnone,
      checksRight_of_take_eq h (by omega) hchecks⟩
  · obtain ⟨hlt, hheader, hbits, hchecks, hbyte⟩ := rxDecode_eq_iff.mp hi
    exact rxDecode_eq_iff.mpr ⟨hlt, headerRight_of_take_eq h (by omega) hheader,
      bitsRight_of_take_eq h (by omega) hbits, checksRight_of_take_eq h (by omega) hchecks,
      by rwa [capturedByte_of_take_eq h le_rfl]⟩

/-- A bit that is recognised is that bit of the byte the capture carries (R56). -/
theorem readBit_eq_some_byteBit {t : Tolerance} {cap : List Event} {i j : Nat} (hj : j < 8)
    (h : (readBit t cap (2 + 2 * (8 * i + j))).isSome = true) :
    readBit t cap (2 + 2 * (8 * i + j)) = some (byteBit (capturedByte t cap i) j) := by
  have hbit := byteBit_capturedBits (t := t) (cap := cap) (i := i) le_rfl j
  rw [capturedBits_eight] at hbit
  obtain ⟨v, hv⟩ := Option.isSome_iff_exists.mp h
  rw [hv] at hbit ⊢
  rw [Option.some.injEq, Bool.eq_iff_iff, hbit]
  simp [hj]

/-- Settles O60: every bit of a decoded frame is recognised, and each byte is the one the capture carries. -/
theorem bytesAreAssembledBitByBit : Obligations.BytesAreAssembledBitByBit := by
  intro t cap R hR i j
  obtain ⟨-, hbits, -, hbytes⟩ := rxDecode_eq_iff.mp hR
  refine ⟨?_, hbytes i⟩
  rw [hbytes i]
  exact readBit_eq_some_byteBit j.isLt (hbits _ (by omega))

end Sys2Proof.Machine
end

section
/-! PROOFS. The statements of 40_serializer.md: the serializer never fails (R78), both halves move forward only (R77, R95), a
whole send hands over the transcript of the train (R81), and the time a train takes to play (R177). -/

namespace Sys2Proof.Machine

/-! ### Steps with one half busy -/

section
variable {s : State}

/-- With nothing pending and the serializer alone busy, a step is the micro-operation of its phase (R14). -/
theorem step_of_txBusy (hn : NothingPending s) (ht : s.txPhase ≠ .idle) (hr : s.rxPhase = .idle) :
    step s = exec s.txPhase.microOp s := by
  rw [step_of_fetch (fetch_of_txBusy hn ht hr), beforeExec_of_idle (.inr hr)]

/-- With nothing pending and the deserializer alone busy, a step is the micro-operation of its phase (R15). -/
theorem step_of_rxBusy (hn : NothingPending s) (ht : s.txPhase = .idle) (hr : s.rxPhase ≠ .idle) :
    step s = exec s.rxPhase.microOp s := by
  rw [step_of_fetch (fetch_of_rxBusy hn ht hr), beforeExec_of_idle (.inl ht)]

/-- The successor of `TX.BIT` by wire index: the next bit of the repetition, or what follows its last bit (R73, R77). -/
theorem advanceTx_wireIndex_cases {r : Fin 2} {i : Fin 18} {j : Fin 8} (hr : s.txRep = r) (hi : s.txByte = i)
    (hj : s.txBit = j) :
    (∃ i' j', wireIndex i' j' = wireIndex i j + 1 ∧ s.advanceTx = s.setTxPc .bit r i' j') ∨
    (wireIndex i j = 143 ∧ r = 0 ∧ s.advanceTx = s.setTxPc .gap 0 0 0) ∨
    (wireIndex i j = 143 ∧ r = 1 ∧ s.advanceTx = s.setTxPc .foot 1 0 0) := by
  subst hr hi hj
  simp only [wireIndex_eq]
  obtain ⟨hj, h⟩ | ⟨hj, hi, h⟩ | ⟨hj, hi, hr, h⟩ | ⟨hj, hi, hr, h⟩ := advanceTx_cases s
  · have hj' : (s.txBit + 1).val = s.txBit.val + 1 := Fin.val_add_one_of_lt' (show s.txBit.val + 1 < 8 by omega)
    exact .inl ⟨s.txByte, s.txBit + 1, by omega, h⟩
  · have hi' : (s.txByte + 1).val = s.txByte.val + 1 := Fin.val_add_one_of_lt' (show s.txByte.val + 1 < 18 by omega)
    exact .inl ⟨s.txByte + 1, 0, by rw [hi', hj, Fin.val_zero]; omega, h⟩
  · exact .inr (.inl ⟨by omega, hr, h⟩)
  · exact .inr (.inr ⟨by omega, hr, h⟩)

end

/-! ### A whole send -/

section
variable {s t u : State} {m n : Nat}

/-- A run is a step and the rest of the run. -/
theorem reaches_succ_iff : Reaches (n + 1) s u ↔ ∃ t, step s = .next t ∧ Reaches n t u := by
  unfold Reaches
  simp only [Host.Core.run]
  rw [show Sys2Proof.core.step s = step s from rfl]
  cases step s <;> simp

/-- A step that answers a next state is a run. -/
theorem reaches_one (h : step s = .next t) : Reaches 1 s t := reaches_succ_iff.mpr ⟨t, h, rfl⟩

/-- Runs are put together one after the other. -/
theorem Reaches.trans (hst : Reaches m s t) (htu : Reaches n t u) : Reaches (m + n) s u := by
  induction m generalizing s with
  | zero =>
    cases hst
    rwa [Nat.zero_add]
  | succ m ih =>
    obtain ⟨s', hs, hst⟩ := reaches_succ_iff.mp hst
    rw [Nat.add_right_comm]
    exact reaches_succ_iff.mpr ⟨s', hs, ih hst⟩

/-- `s` in the middle of a send: the serializer at the position, the collaborator with the events due by it (R77, R81). -/
def State.sending (s : State) (ph : TxPhase) (r : Fin 2) (i : Fin 18) (j : Fin 8) : State :=
  State.setTxPc ph r i j { s with txOut := txSent s.txf (txEmitted ph r i j) }

/-- A symbol sent in its place of the train, and the position moved on by its events. -/
theorem sending_emitSymbol {y : Symbol} {ph ph' : TxPhase} {r r' : Fin 2} {i i' : Fin 18} {j j' : Fin 8}
    (hat : StandsAt (txTrain s.txf) (txEmitted ph r i j) (symbolEvents y))
    (hn : txEmitted ph' r' i' j' = txEmitted ph r i j + (symbolEvents y).length) :
    ((s.sending ph r i j).emitSymbol y).setTxPc ph' r' i' j' = s.sending ph' r' i' j' := by
  simp only [State.sending, emitSymbol_eq, State.setTxPc, txSent_append hat, hn]

/-- In the middle of a send, the symbol of `TX.BIT` is the one due in the train (R73). -/
theorem exec_txBit_sending (s : State) (r : Fin 2) (i : Fin 18) (j : Fin 8) :
    ∃ y, StandsAt (txTrain s.txf) (txEmitted .bit r i j) (symbolEvents y) ∧ (symbolEvents y).length = 2 ∧
      exec .txBit (s.sending .bit r i j) = .next ((s.sending .bit r i j).emitSymbol y).advanceTx := by
  have hat := (standsAt_repetition s.txf r).trans (standsAt_bit s.txf (wireIndex_lt i j))
  rw [bitEvents, wireBit_wireIndex, ← Nat.add_assoc] at hat
  exact ⟨_, hat, length_symbolEvents_bit _, rfl⟩

variable (hn : NothingPending s) (hr : s.rxPhase = .idle)
include hn hr

/-- A step in the middle of a send is the micro-operation of its phase (R77). -/
theorem reaches_of_sending {ph : TxPhase} {r : Fin 2} {i : Fin 18} {j : Fin 8} (hph : ph ≠ .idle)
    (h : exec ph.microOp (s.sending ph r i j) = .next t) : Reaches 1 (s.sending ph r i j) t :=
  reaches_one ((step_of_txBusy (s := s.sending ph r i j) hn hph hr).trans h)

/-- `TX.HDR` goes on to the first bit (R72). -/
theorem sending_hdr_reaches (r : Fin 2) : Reaches 1 (s.sending .hdr r 0 0) (s.sending .bit r 0 0) := by
  refine reaches_of_sending hn hr (by decide) (congrArg Host.Outcome.next ?_)
  exact sending_emitSymbol ((standsAt_repetition s.txf r).trans (standsAt_header s.txf)) rfl

/-- `TX.BIT` sends the bit at its wire position of its repetition, and goes on to the next bit or past the last (R73). -/
theorem sending_bit_reaches (r : Fin 2) (i : Fin 18) (j : Fin 8) :
    (∃ i' j', wireIndex i' j' = wireIndex i j + 1 ∧ Reaches 1 (s.sending .bit r i j) (s.sending .bit r i' j')) ∨
    (wireIndex i j = 143 ∧ r = 0 ∧ Reaches 1 (s.sending .bit r i j) (s.sending .gap 0 0 0)) ∨
    (wireIndex i j = 143 ∧ r = 1 ∧ Reaches 1 (s.sending .bit r i j) (s.sending .foot 1 0 0)) := by
  obtain ⟨y, hat, hlen, hexec⟩ := exec_txBit_sending s r i j
  have hnext {ph' : TxPhase} {r' : Fin 2} {i' : Fin 18} {j' : Fin 8}
      (hadvance : ((s.sending .bit r i j).emitSymbol y).advanceTx =
        ((s.sending .bit r i j).emitSymbol y).setTxPc ph' r' i' j')
      (hemitted : txEmitted ph' r' i' j' = 292 * r.val + 2 + 2 * wireIndex i j + 2) :
      Reaches 1 (s.sending .bit r i j) (s.sending ph' r' i' j') := by
    have hsent := sending_emitSymbol hat (hemitted.trans (congrArg (_ + ·) hlen.symm))
    exact reaches_of_sending hn hr (by decide) (hexec.trans (congrArg Host.Outcome.next (hadvance.trans hsent)))
  obtain ⟨i', j', hk, h⟩ | ⟨hk, hr0, h⟩ | ⟨hk, hr1, h⟩ :=
    advanceTx_wireIndex_cases (s := (s.sending .bit r i j).emitSymbol y) (r := r) (i := i) (j := j) rfl rfl rfl
  · exact .inl ⟨i', j', hk, hnext h (by rw [txEmitted, hk]; rfl)⟩
  · exact .inr (.inl ⟨hk, hr0, hnext h (by rw [hr0, hk]; rfl)⟩)
  · exact .inr (.inr ⟨hk, hr1, hnext h (by rw [hr1, hk]; rfl)⟩)

/-- The bits up to the last one of a repetition (R73, R77). -/
theorem sending_bits_reach (r : Fin 2) {i : Fin 18} {j : Fin 8} (hm : wireIndex i j + m = 143) :
    Reaches m (s.sending .bit r i j) (s.sending .bit r 17 7) := by
  induction m generalizing i j with
  | zero =>
    rw [wireIndex_eq] at hm
    obtain rfl : i = 17 := Fin.ext (show i.val = 17 by omega)
    obtain rfl : j = 7 := Fin.ext (show j.val = 7 by omega)
    rfl
  | succ m ih =>
    obtain ⟨i', j', hk, h⟩ | ⟨hk, -⟩ | ⟨hk, -⟩ := sending_bit_reaches hn hr r i j
    · rw [Nat.add_comm m 1]
      exact h.trans (ih (by omega))
    · omega
    · omega

/-- The header and all bits but the last of a repetition (R72, R73). -/
theorem sending_repetition_reaches (r : Fin 2) : Reaches 144 (s.sending .hdr r 0 0) (s.sending .bit r 17 7) :=
  (sending_hdr_reaches hn hr r).trans (sending_bits_reach hn hr r (m := 143) (i := 0) (j := 0) rfl)

/-- The last bit of the first repetition goes on to the gap (R73). -/
theorem sending_lastBit_reaches_gap : Reaches 1 (s.sending .bit 0 17 7) (s.sending .gap 0 0 0) := by
  obtain ⟨i', j', hk, -⟩ | ⟨-, -, h⟩ | ⟨-, h01, -⟩ := sending_bit_reaches hn hr 0 17 7
  · exact absurd (wireIndex_lt i' j') (by rw [hk]; decide)
  · exact h
  · cases h01

/-- The last bit of the second repetition goes on to the footer (R73). -/
theorem sending_lastBit_reaches_foot : Reaches 1 (s.sending .bit 1 17 7) (s.sending .foot 1 0 0) := by
  obtain ⟨i', j', hk, -⟩ | ⟨-, h10, -⟩ | ⟨-, -, h⟩ := sending_bit_reaches hn hr 1 17 7
  · exact absurd (wireIndex_lt i' j') (by rw [hk]; decide)
  · cases h10
  · exact h

/-- `TX.GAP` goes on to the second repetition (R74). -/
theorem sending_gap_reaches : Reaches 1 (s.sending .gap 0 0 0) (s.sending .hdr 1 0 0) :=
  reaches_of_sending hn hr (by decide) (congrArg Host.Outcome.next (sending_emitSymbol (standsAt_gap s.txf) rfl))

/-- `TX.FOOT` goes on to the end of the send (R75). -/
theorem sending_foot_reaches : Reaches 1 (s.sending .foot 1 0 0) (s.sending .perform 1 0 0) :=
  reaches_of_sending hn hr (by decide) (congrArg Host.Outcome.next (sending_emitSymbol (standsAt_footer s.txf) rfl))

/-- `TX.CARRIER` from an empty list of strobes goes on to the first repetition (R71). -/
theorem carrier_reaches_sending (hph : s.txPhase = .carrier) (hout : s.txOut = []) :
    Reaches 1 s (s.sending .hdr 0 0 0) := by
  have hexec : exec .txCarrier s = .next (s.sending .hdr 0 0 0) := by
    show Host.Outcome.next _ = Host.Outcome.next _
    simp [State.setCarrier, State.strobe, State.sending, hout, txEmitted, txSent]
  refine reaches_one ((step_of_txBusy hn (by simp [hph]) hr).trans ?_)
  rwa [hph]

/-- `TX.PERFORM` behind the whole train completes the transcript of the send (R76, R81). -/
theorem sending_perform_reaches :
    Reaches 1 (s.sending .perform 1 0 0) (State.setTxPc .idle 0 0 0 { s with txOut := txTranscript s.txf }) := by
  refine reaches_of_sending hn hr (by decide) (congrArg Host.Outcome.next ?_)
  simp [State.performTx, State.strobe, State.sending, State.setTxPc, txEmitted, txSent_all_append_perform]

end

/-- Settles O48: the carrier, repetition, gap, repetition, footer and `Perform`, one run after the other. -/
theorem sendAgreesWithTxTrain : Obligations.SendAgreesWithTxTrain := by
  intro s hn hr hph hout
  have hfirst : Reaches 146 s (s.sending .gap 0 0 0) :=
    ((carrier_reaches_sending hn hr hph hout).trans (sending_repetition_reaches hn hr 0)).trans
      (sending_lastBit_reaches_gap hn hr)
  have hsecond : Reaches 146 (s.sending .gap 0 0 0) (s.sending .foot 1 0 0) :=
    ((sending_gap_reaches hn hr).trans (sending_repetition_reaches hn hr 1)).trans
      (sending_lastBit_reaches_foot hn hr)
  exact (hfirst.trans hsecond).trans ((sending_foot_reaches hn hr).trans (sending_perform_reaches hn hr))

/-! ### No failure -/

/-- Settles O42: the start is accepted from idle, a micro-operation always answers, and it leaves the other half alone. -/
theorem serializerNeverFails : Obligations.SerializerNeverFails := by
  refine fun s => ⟨fun h => ⟨_, exec_txSend_of_idle h, startTx_rxStatus s, startTx_rxErrpos s⟩, fun i hi => ?_⟩
  obtain ⟨t, ht⟩ := exec_txMicroOp_runs hi s
  obtain ⟨⟨-, -, -, -, -, -, hstatus, hpos, -⟩, -⟩ := (halvesShareNoState i s t ht).1 hi
  exact ⟨t, ht, hstatus, hpos⟩

/-! ### Both halves move forward only -/

section
variable {s t : State}

/-- A busy serializer is below the rank of the idle phase (R77). -/
theorem txRank_lt_of_busy (h : s.txPhase ≠ .idle) : txRank s < 1000 := by
  have hr := txRep_lt s
  have hk := wireIndex_lt s.txByte s.txBit
  cases hph : s.txPhase with
  | idle => exact absurd hph h
  | _ =>
    simp only [txRank, hph]
    omega

theorem txRank_of_idle (h : s.txPhase = .idle) : txRank s = 1000 := by simp [txRank, h]

/-- A busy deserializer is below the rank of the idle phase (R95). -/
theorem rxRank_lt_of_busy (h : s.rxPhase ≠ .idle) : rxRank s < 1000 := by
  have hi := rxByte_lt s
  have hj := rxBit_lt s
  cases hph : s.rxPhase with
  | idle => exact absurd hph h
  | _ =>
    simp only [rxRank, hph]
    omega

theorem rxRank_of_idle (h : s.rxPhase = .idle) : rxRank s = 1000 := by simp [rxRank, h]

/-- The successor of `TX.BIT` ranks above its own position (R73, R77). -/
theorem txRank_advanceTx (s : State) : 2 + 200 * s.txRep.val + wireIndex s.txByte s.txBit < txRank s.advanceTx := by
  obtain ⟨i, j, hk, h⟩ | ⟨hk, hr, h⟩ | ⟨hk, hr, h⟩ := advanceTx_wireIndex_cases (s := s) rfl rfl rfl <;> rw [h]
  · simp only [txRank, setTxPc_txPhase, setTxPc_txRep, setTxPc_txByte, setTxPc_txBit, hk]
    omega
  · rw [hk, hr]
    show 2 + 200 * 0 + 143 < 200
    decide
  · rw [hk, hr]
    show 2 + 200 * 1 + 143 < 500
    decide

/-- Whatever a busy serializer's phase selects raises its rank (R77). -/
theorem txRank_lt_of_microOp (ht : s.txPhase ≠ .idle) (he : exec s.txPhase.microOp s = .next t) :
    txRank s < txRank t := by
  cases hph : s.txPhase with
  | idle => exact absurd hph ht
  | perform =>
    rw [hph] at he
    cases he
    exact txRank_lt_of_busy ht
  | bit =>
    rw [hph] at he
    cases he
    have h := txRank_advanceTx (s.emitSymbol (bitSymbol (s.readTxfBit s.txByte s.txBit)))
    simpa [txRank, hph] using h
  | carrier | hdr | gap | foot =>
    rw [hph] at he
    cases he
    simp [txRank, hph, wireIndex_eq]

/-- What `RX.HDR` can do: find the header and go on to the first bit, or raise (R91). -/
theorem execRxHdr_cases (s : State) :
    (itemMatches s.tol s.cap s.rxCur 3500 1700 = true ∧
      execRxHdr s = .next ((s.setRxCur (s.rxCur + 2)).setRxPc .bit 0 0 (s.rxCur + 2))) ∨
    (itemMatches s.tol s.cap s.rxCur 3500 1700 = false ∧ execRxHdr s = .next (s.raiseRx .headerMismatch)) := by
  unfold execRxHdr
  split
  case h_1 s' hs' =>
    obtain ⟨hmatch, rfl⟩ := expectItem_eq_some.mp hs'
    exact .inl ⟨hmatch, rfl⟩
  case h_2 hs' => exact .inr ⟨expectItem_eq_none.mp hs', rfl⟩

/-- The successor of `RX.BIT` ranks one above its own position (R92, R95). -/
theorem rxRank_advanceRx (s : State) : rxRank s.advanceRx = 1 + 9 * s.rxByte.val + s.rxBit.val + 1 := by
  obtain ⟨hj, h⟩ | ⟨hj, h⟩ := advanceRx_cases s <;> rw [h]
  · have hj' : (s.rxBit + 1).val = s.rxBit.val + 1 := Fin.val_add_one_of_lt' (show s.rxBit.val + 1 < 8 by omega)
    simp only [rxRank, setRxPc_rxPhase, setRxPc_rxByte, setRxPc_rxBit, hj', Nat.add_assoc]
  · simp only [rxRank, setRxPc_rxPhase, setRxPc_rxByte, hj]

/-- What follows a check ranks above it (R93, R95). -/
theorem rxRank_passCheck (s : State) : 1 + 9 * s.rxByte.val + 8 < rxRank s.passCheck := by
  obtain ⟨hi, h⟩ | ⟨hi, h⟩ := passCheck_cases s <;> rw [h]
  · have hi' : (s.rxByte + 1).val = s.rxByte.val + 1 := Fin.val_add_one_of_lt' (show s.rxByte.val + 1 < 18 by omega)
    simp only [rxRank, setRxPc_rxPhase, setRxPc_rxByte, setRxPc_rxBit, hi']
    omega
  · rw [rxRank_of_idle (show s.finishRx.rxPhase = .idle from rfl)]
    omega

/-- An error ends the operation, above every position of a busy deserializer (R146). -/
theorem rxRank_lt_raiseRx (hr : s.rxPhase ≠ .idle) (e : RxError) (s' : State) : rxRank s < rxRank (s'.raiseRx e) := by
  rw [rxRank_of_idle (raiseRx_rxPhase s' e)]
  exact rxRank_lt_of_busy hr

/-- Whatever a busy deserializer's phase selects raises its rank (R95). -/
theorem rxRank_lt_of_microOp (hr : s.rxPhase ≠ .idle) (he : exec s.rxPhase.microOp s = .next t) :
    rxRank s < rxRank t := by
  cases hph : s.rxPhase with
  | idle => exact absurd hph hr
  | hdr =>
    rw [hph] at he
    change execRxHdr s = .next t at he
    obtain ⟨-, h⟩ | ⟨-, h⟩ := execRxHdr_cases s <;> rw [h] at he <;> cases he
    · simp [rxRank, hph]
    · exact rxRank_lt_raiseRx hr _ s
  | bit =>
    have hrank : rxRank s = 1 + 9 * s.rxByte.val + s.rxBit.val := by simp [rxRank, hph]
    rw [hph] at he
    change execRxBit s = .next t at he
    obtain ⟨-, h⟩ | ⟨-, -, h⟩ | ⟨-, -, h⟩ := execRxBit_cases s <;> rw [h] at he <;> cases he
    · simp [rxRank_advanceRx, hrank]
    · simp [rxRank_advanceRx, hrank]
    · exact rxRank_lt_raiseRx hr _ s.beginByte
  | chk =>
    have hrank : rxRank s = 1 + 9 * s.rxByte.val + 8 := by simp [rxRank, hph]
    rw [hph] at he
    change execRxChk s = .next t at he
    obtain ⟨-, -, -, h⟩ | ⟨-, h⟩ := execRxChk_cases s <;> rw [h] at he <;> cases he
    · exact rxRank_lt_raiseRx hr _ s
    · rw [hrank]
      exact rxRank_passCheck s

end

/-- Settles O43: a step with one half busy is the micro-operation of its phase, which raises the rank of that half. -/
theorem operationsMoveForward : Obligations.OperationsMoveForward := by
  intro s
  refine ⟨?_, ?_, fun t hd hc hr ht hs => ?_, fun t hd hc ht hr hs => ?_⟩
  · by_cases h : s.txPhase = .idle
    · exact (txRank_of_idle h).le
    · exact (txRank_lt_of_busy h).le
  · by_cases h : s.rxPhase = .idle
    · exact (rxRank_of_idle h).le
    · exact (rxRank_lt_of_busy h).le
  · rw [step_of_txBusy ⟨hd, hc⟩ ht hr] at hs
    exact txRank_lt_of_microOp ht hs
  · rw [step_of_rxBusy ⟨hd, hc⟩ ht hr] at hs
    exact rxRank_lt_of_microOp hr hs

/-! ### The time a train takes -/

theorem playTime_append (xs ys : List Event) : playTime (xs ++ ys) = playTime xs + playTime ys := by
  simp [playTime]

/-- A data bit takes 820 microseconds, and 860 more when it is 1 (R54, R177). -/
theorem playTime_bitEvents (F : Frame) (k : Nat) :
    playTime (bitEvents F k) = 820 + if wireBit F k then 860 else 0 := by
  rw [bitEvents_eq]
  cases wireBit F k <;> rfl

/-- The time for the data bits at some wire positions, by how many of them are 1 (R177). -/
theorem playTime_flatMap_bitEvents (F : Frame) (ks : List Nat) :
    playTime (ks.flatMap (bitEvents F)) = 820 * ks.length + 860 * (ks.filter (wireBit F)).length := by
  induction ks with
  | nil => rfl
  | cons k ks ih =>
    rw [List.flatMap_cons, playTime_append, playTime_bitEvents, ih, List.length_cons]
    by_cases hk : wireBit F k = true
    · rw [if_pos hk, List.filter_cons_of_pos hk, List.length_cons]
      omega
    · rw [if_neg hk, List.filter_cons_of_neg hk]
      omega

/-- One repetition takes 5200 microseconds for the header, and its bits (R177). -/
theorem playTime_repetition (F : Frame) : playTime (repetition F) = 123280 + 860 * oneBits F := by
  have hheader : playTime (symbolEvents .header) = 5200 := rfl
  have hones : oneBits F = ((List.range 144).filter (wireBit F)).length := rfl
  rw [repetition_eq_bits, playTime_append, hheader, playTime_flatMap_bitEvents, List.length_range, hones]
  omega

/-- Settles O52: two repetitions, the gap and the footer. -/
theorem playTimeOfTrain : Obligations.PlayTimeOfTrain := by
  intro F
  have hgap : playTime (symbolEvents .gap) = 17930 := rfl
  have hfooter : playTime (symbolEvents .footer) = 430 := rfl
  rw [txTrain_eq, playTime_append, playTime_append, playTime_append, playTime_repetition, hgap, hfooter]
  omega

end Sys2Proof.Machine
end

section
/-! PROOFS. The statements of 41_deserializer.md: a failing decode has no outward effect (R106, R146), a whole decode ends
with the result of `RxDecode` (R109), and what the fixed bytes and the others decide (R100). -/

namespace Sys2Proof.Machine

/-! ### A decode that ends without success -/

/-- Reading a bit leaves the deserializer busy (R92, R95). -/
theorem advanceRx_rxPhase_ne_idle (s : State) : s.advanceRx.rxPhase ≠ .idle := by
  obtain ⟨-, h⟩ | ⟨-, h⟩ := advanceRx_cases s <;> rw [h] <;> nofun

/-- A micro-operation that makes a busy deserializer idle raises an error or is the success action (R94, R146). -/
theorem raised_or_finished_of_rxMicroOp {i : Instr} {s t : State} (hi : i ∈ rxMicroOps) (hbusy : s.rxPhase ≠ .idle)
    (h : exec i s = .next t) (hidle : t.rxPhase = .idle) :
    (∃ e s', t = State.raiseRx e s') ∨ t = s.finishRx := by
  cases i with
  | rxIdle =>
    cases h
    exact absurd hidle hbusy
  | rxHdr =>
    change execRxHdr s = .next t at h
    obtain ⟨-, h'⟩ | ⟨-, h'⟩ := execRxHdr_cases s <;> rw [h'] at h <;> cases h
    · cases hidle
    · exact .inl ⟨_, _, rfl⟩
  | rxBit =>
    change execRxBit s = .next t at h
    obtain ⟨-, h'⟩ | ⟨-, -, h'⟩ | ⟨-, -, h'⟩ := execRxBit_cases s <;> rw [h'] at h <;> cases h
    · exact absurd hidle (advanceRx_rxPhase_ne_idle _)
    · exact absurd hidle (advanceRx_rxPhase_ne_idle _)
    · exact .inl ⟨_, _, rfl⟩
  | rxChk =>
    change execRxChk s = .next t at h
    obtain ⟨-, -, -, h'⟩ | ⟨-, h'⟩ := execRxChk_cases s <;> rw [h'] at h <;> cases h
    · exact .inl ⟨_, _, rfl⟩
    · obtain ⟨-, h'⟩ | ⟨-, h'⟩ := passCheck_cases s <;> rw [h'] at hidle ⊢
      · cases hidle
      · exact .inr rfl
  | rxDone =>
    cases h
    exact .inr rfl
  | _ => simp [rxMicroOps] at hi

/-- Settles O39: what ends a decode without success raised an error, which returns to the idle position. -/
theorem failureHasNoOutwardEffect : Obligations.FailureHasNoOutwardEffect := by
  intro i s t hi hbusy h hidle hnotOk
  obtain ⟨hsame, hports⟩ := (halvesShareNoState i s t h).2 hi
  obtain ⟨-, hnotDecode, -⟩ := rxMicroOp_ne i hi
  obtain ⟨-, -, hcap, -⟩ := inputsStayFixed i s t h
  obtain ⟨hotherOps, hbit⟩ := onlyRxBitWritesRxf i s t h
  have hhanded : t.handed = s.handed :=
    (handedOver_of_rxMicroOp hi h).resolve_right fun ⟨_, _, hok, _⟩ => hnotOk hok
  have hrxf : ∀ m : Fin 18, m ≠ s.rxByte → t.rxf[m.val] = s.rxf[m.val] := fun m hm => by
    by_cases hrxBit : i = .rxBit
    · exact (hbit hrxBit m hm).1
    · rw [(hotherOps hrxBit).1]
  have hinvalid : t.rxFrameValid = false := beq_false_of_ne hnotOk
  obtain ⟨e, s', rfl⟩ | rfl := raised_or_finished_of_rxMicroOp hi hbusy h hidle
  · exact ⟨hsame, hports, hhanded, hcap hnotDecode, rfl, rfl, rfl, hinvalid, hrxf⟩
  · exact absurd rfl hnotOk

/-! ### What a decode has read -/

/-- The header, the bytes below `RX_BYTE` and `n` bits of that byte have been recognised, the bytes below it are allowed,
and `RXF` holds them all as the capture carries them (R92, R93). -/
structure AsCaptured (s : State) (n : Nat) : Prop where
  header : HeaderRight s.tol s.cap
  bits : BitsRight s.tol s.cap (8 * s.rxByte.val + n)
  checks : ChecksRight s.tol s.cap s.rxByte.val
  cur : s.rxCur = 2 + 2 * (8 * s.rxByte.val + n)
  before : ∀ m : Fin 18, m.val < s.rxByte.val → s.rxf[m.val] = capturedByte s.tol s.cap m.val
  byte : s.rxf[s.rxByte.val] = capturedBits s.tol s.cap s.rxByte.val n

/-- A busy deserializer's position with what has been read by it (R95). In phase `BIT` it is said of the byte as `RX.BIT`
finds it once it has begun it. -/
def InDecode (s : State) : Prop :=
  match s.rxPhase with
  | .idle => False
  | .hdr => s.rxByte = 0 ∧ s.rxBit = 0 ∧ s.rxCur = 0
  | .bit => AsCaptured s.beginByte s.rxBit.val
  | .chk => AsCaptured s 8

section
variable {s t : State}

theorem InDecode.busy (h : InDecode s) : s.rxPhase ≠ .idle := fun hph => by simp [InDecode, hph] at h

/-- A byte that is begun holds none of its bits (R92). -/
theorem asCaptured_beginByte (hbit : s.rxBit = 0) (hheader : HeaderRight s.tol s.cap)
    (hbits : BitsRight s.tol s.cap (8 * s.rxByte.val)) (hchecks : ChecksRight s.tol s.cap s.rxByte.val)
    (hcur : s.rxCur = 2 + 2 * (8 * s.rxByte.val))
    (hbefore : ∀ m : Fin 18, m.val < s.rxByte.val → s.rxf[m.val] = capturedByte s.tol s.cap m.val) :
    AsCaptured s.beginByte 0 := by
  have hclear : s.beginByte = s.clearRxf s.rxByte := if_pos hbit
  rw [hclear]
  refine ⟨hheader, hbits, hchecks, hcur, fun m hm => ?_, ?_⟩
  · have hne : s.rxByte.val ≠ m.val := Nat.ne_of_gt hm
    simpa [hne] using hbefore m hm
  · simp [capturedBits]

/-- A bit that reads as 0 is read by moving on (R92). -/
theorem asCaptured_succ_of_zero {n : Nat} (h : AsCaptured s n) (hread : readBit s.tol s.cap s.rxCur = some false) :
    AsCaptured (s.setRxCur (s.rxCur + 2)) (n + 1) := by
  obtain ⟨hheader, hbits, hchecks, hcur, hbefore, hbyte⟩ := h
  rw [hcur] at hread
  refine ⟨hheader, bitsRight_succ hbits (by simp [hread]), hchecks, ?_, hbefore, ?_⟩
  · simp only [setRxCur_rxCur, setRxCur_rxByte]
    omega
  · simpa [capturedBits_succ, hread] using hbyte

/-- A bit that reads as 1 is read by setting it (R92). -/
theorem asCaptured_succ_of_one (h : AsCaptured s s.rxBit.val) (hread : readBit s.tol s.cap s.rxCur = some true) :
    AsCaptured ((s.setRxCur (s.rxCur + 2)).setRxfBit s.rxByte s.rxBit) (s.rxBit.val + 1) := by
  obtain ⟨hheader, hbits, hchecks, hcur, hbefore, hbyte⟩ := h
  rw [hcur] at hread
  refine ⟨hheader, bitsRight_succ hbits (by simp [hread]), hchecks, ?_, fun m hm => ?_, ?_⟩
  · simp only [setRxfBit_rxCur, setRxCur_rxCur, setRxfBit_rxByte, setRxCur_rxByte]
    omega
  · have hne : s.rxByte.val ≠ m.val := Nat.ne_of_gt hm
    simpa [hne] using hbefore m hm
  · simp [capturedBits_succ, hread, hbyte]

/-- A byte with another bit read is at its next bit or at its check (R92, R95). -/
theorem inDecode_advanceRx (h : AsCaptured s (s.rxBit.val + 1)) : InDecode s.advanceRx := by
  obtain ⟨hj, heq⟩ | ⟨hj, heq⟩ := advanceRx_cases s <;> rw [heq]
  · have hj' : (s.rxBit + 1).val = s.rxBit.val + 1 := Fin.val_add_one_of_lt' (show s.rxBit.val + 1 < 8 by omega)
    have hbegun : (s.setRxPc .bit s.rxByte (s.rxBit + 1) s.rxCur).rxBit ≠ 0 := fun h0 => by
      have h0' : (s.rxBit + 1).val = 0 := congrArg Fin.val h0
      omega
    show AsCaptured (s.setRxPc .bit s.rxByte (s.rxBit + 1) s.rxCur).beginByte (s.rxBit + 1).val
    rw [State.beginByte, if_neg hbegun, hj']
    exact ⟨h.header, h.bits, h.checks, h.cur, h.before, h.byte⟩
  · rw [hj] at h
    exact ⟨h.header, h.bits, h.checks, h.cur, h.before, h.byte⟩

/-- Of a byte at its check, all eight bits have been read (R93). -/
theorem AsCaptured.before_succ (h : AsCaptured s 8) (m : Fin 18) (hm : m.val < s.rxByte.val + 1) :
    s.rxf[m.val] = capturedByte s.tol s.cap m.val := by
  obtain hlt | heq := Nat.lt_succ_iff_lt_or_eq.mp hm
  · exact h.before m hlt
  · obtain rfl : m = s.rxByte := Fin.ext heq
    exact h.byte

/-! ### One micro-operation of a decode -/

/-- What ends a decode: an error is raised, or the success action runs, which only the 163rd micro-operation does; nothing
was handed over before (R94, R146). -/
inductive Ended (handed : List Frame) (n : Nat) : RxResult → State → Prop
  | failed (s : State) (e : RxError) (hhanded : s.handed = handed) : Ended handed n (.err e) (s.raiseRx e)
  | succeeded (s : State) (hhanded : s.handed = handed) (hn : n = 163) : Ended handed n (.ok s.rxf) s.finishRx

/-- The decode from `s` goes on at `t`, one position further and with nothing handed over (R95). -/
structure GoesOn (s t : State) : Prop where
  inDecode : InDecode t
  rank : rxRank t = rxRank s + 1
  handed : t.handed = s.handed

/-- The decode from `s` ends at `t`, with the right result (R90, R109). -/
def EndsRight (s t : State) : Prop := ∃ r, ResultRight s.tol s.cap r ∧ Ended s.handed (rxRank s + 1) r t

/-- `RX.HDR` goes on to the first bit or ends the decode (R91). -/
theorem goesOn_or_endsRight_rxHdr (hph : s.rxPhase = .hdr) (h : InDecode s) (he : execRxHdr s = .next t) :
    GoesOn s t ∨ EndsRight s t := by
  simp only [InDecode, hph] at h
  obtain ⟨hbyte, hbit, hcur⟩ := h
  obtain ⟨hmatch, heq⟩ | ⟨hmatch, heq⟩ := execRxHdr_cases s <;> rw [heq] at he <;> cases he
  · rw [hcur] at hmatch
    have hnext : AsCaptured ((s.setRxCur (s.rxCur + 2)).setRxPc .bit 0 0 (s.rxCur + 2)).beginByte 0 :=
      asCaptured_beginByte rfl hmatch (fun k hk => absurd hk (Nat.not_lt_zero k))
        (fun i hi => absurd hi (Nat.not_lt_zero i)) (by rw [hcur]; rfl) fun m hm => absurd hm (Nat.not_lt_zero _)
    exact .inl ⟨hnext, by simp [rxRank, hph], rfl⟩
  · rw [hcur] at hmatch
    exact .inr ⟨.err .headerMismatch, by simpa [ResultRight, HeaderRight] using hmatch, .failed s _ rfl⟩

/-- `RX.BIT` goes on behind its bit or ends the decode (R92). -/
theorem goesOn_or_endsRight_rxBit (hph : s.rxPhase = .bit) (h : InDecode s) (he : execRxBit s = .next t) :
    GoesOn s t ∨ EndsRight s t := by
  have hbegun : AsCaptured s.beginByte s.beginByte.rxBit.val := by
    rw [beginByte_rxBit]
    simpa only [InDecode, hph] using h
  have hrank : rxRank s = 1 + 9 * s.rxByte.val + s.rxBit.val := by simp [rxRank, hph]
  obtain ⟨h1, heq⟩ | ⟨h1, h0, heq⟩ | ⟨h1, h0, heq⟩ := execRxBit_cases s <;> rw [heq] at he <;> cases he
  · have hnext := inDecode_advanceRx (asCaptured_succ_of_one hbegun (by simp [readBit_eq, h1]))
    rw [beginByte_rxCur, beginByte_rxByte, beginByte_rxBit] at hnext
    exact .inl ⟨hnext, by simp [rxRank_advanceRx, hrank], by simp⟩
  · have hnext := inDecode_advanceRx (asCaptured_succ_of_zero hbegun (by simp [readBit_eq, h1, h0]))
    rw [beginByte_rxCur] at hnext
    exact .inl ⟨hnext, by simp [rxRank_advanceRx, hrank], by simp⟩
  · have hnone : readBit s.tol s.cap s.rxCur = none := by simp [readBit_eq, h1, h0]
    obtain ⟨hheader, hbits, hchecks, hcur, -, -⟩ := hbegun
    simp only [beginByte_tol, beginByte_cap, beginByte_rxByte, beginByte_rxBit, beginByte_rxCur]
      at hheader hbits hchecks hcur
    have hbyte : wireIndex s.rxByte s.rxBit / 8 = s.rxByte.val := by
      have hbit := rxBit_lt s
      rw [wireIndex_eq]
      omega
    exact .inr ⟨.err (.bitTimingMismatch (wireIndex s.rxByte s.rxBit)),
      ⟨wireIndex_lt _ _, hheader, hbits, hcur ▸ hnone, hbyte ▸ hchecks⟩, .failed s.beginByte _ (beginByte_handed s)⟩

/-- `RX.CHK` goes on to the next byte or ends the decode (R93, R94). -/
theorem goesOn_or_endsRight_rxChk (hph : s.rxPhase = .chk) (h : InDecode s) (he : execRxChk s = .next t) :
    GoesOn s t ∨ EndsRight s t := by
  simp only [InDecode, hph] at h
  have hrank : rxRank s = 1 + 9 * s.rxByte.val + 8 := by simp [rxRank, hph]
  have hbyte : s.rxf[s.rxByte.val] = capturedByte s.tol s.cap s.rxByte.val := h.byte
  by_cases hallowed : byteAllowed s.rxByte.val s.rxf[s.rxByte.val] = true
  · have hchecks : ChecksRight s.tol s.cap (s.rxByte.val + 1) := checksRight_succ h.checks (hbyte ▸ hallowed)
    rw [execRxChk_of_allowed hallowed] at he
    cases he
    obtain ⟨hi, heq⟩ | ⟨hi, heq⟩ := passCheck_cases s <;> rw [heq]
    · have hi' : (s.rxByte + 1).val = s.rxByte.val + 1 := Fin.val_add_one_of_lt' (show s.rxByte.val + 1 < 18 by omega)
      have hnext : AsCaptured (s.setRxPc .bit (s.rxByte + 1) 0 s.rxCur).beginByte 0 := by
        refine asCaptured_beginByte rfl h.header ?_ ?_ ?_ ?_ <;> rw [setRxPc_rxByte, hi']
        · exact h.bits
        · exact hchecks
        · exact h.cur
        · exact h.before_succ
      exact .inl ⟨hnext, by simp [rxRank, hph, hi']; omega, rfl⟩
    · have hbits : BitsRight s.tol s.cap (8 * s.rxByte.val + 8) := h.bits
      rw [hi] at hbits hchecks
      exact .inr ⟨.ok s.rxf, ⟨h.header, hbits, hchecks, fun m => h.before_succ m (by rw [hi]; exact m.isLt)⟩,
        .succeeded s rfl (by rw [hrank, hi])⟩
  · rw [execRxChk_of_not_allowed hallowed] at he
    cases he
    exact .inr ⟨.err (.fixedByteMismatch s.rxByte.val),
      ⟨rxByte_lt s, h.header, h.bits, h.checks, by rwa [← hbyte, ← Bool.not_eq_true]⟩, .failed s _ rfl⟩

/-- Whatever a decode's phase selects goes on or ends it with the right result (R95, R109). -/
theorem goesOn_or_endsRight_microOp (h : InDecode s) (he : exec s.rxPhase.microOp s = .next t) :
    GoesOn s t ∨ EndsRight s t := by
  cases hph : s.rxPhase <;> rw [hph] at he
  case idle => simp [InDecode, hph] at h
  case hdr => exact goesOn_or_endsRight_rxHdr hph h he
  case bit => exact goesOn_or_endsRight_rxBit hph h he
  case chk => exact goesOn_or_endsRight_rxChk hph h he

/-! ### A whole decode -/

/-- The machine runs `n` steps from `s` to `t`, where the deserializer is idle for the first time (R109). -/
structure FirstIdleAfter (n : Nat) (s t : State) : Prop where
  reaches : Reaches n s t
  idle : t.rxPhase = .idle
  busy : ∀ m u, m < n → Reaches m s u → u.rxPhase ≠ .idle

/-- A step of a busy deserializer comes before its first idle state. -/
theorem FirstIdleAfter.succ {n : Nat} {u : State} (hbusy : s.rxPhase ≠ .idle) (hstep : step s = .next t)
    (h : FirstIdleAfter n t u) : FirstIdleAfter (n + 1) s u := by
  refine ⟨reaches_succ_iff.mpr ⟨t, hstep, h.reaches⟩, h.idle, fun m v hm hv => ?_⟩
  cases m with
  | zero =>
    cases hv
    exact hbusy
  | succ m =>
    obtain ⟨t', hstep', hv⟩ := reaches_succ_iff.mp hv
    obtain rfl : t = t' := Host.Outcome.next.inj (hstep.symm.trans hstep')
    exact h.busy m v (by omega) hv

/-- A step to an idle state is the first to reach one. -/
theorem firstIdleAfter_one (hbusy : s.rxPhase ≠ .idle) (hstep : step s = .next t) (hidle : t.rxPhase = .idle) :
    FirstIdleAfter 1 s t :=
  .succ hbusy hstep ⟨rfl, hidle, fun m _ hm => absurd hm (Nat.not_lt_zero m)⟩

theorem Ended.idle {H : List Frame} {n : Nat} {r : RxResult} (h : Ended H n r t) : t.rxPhase = .idle := by
  cases h <;> rfl

/-- The check of byte 17 is the last position of a decode (R95). -/
theorem rxRank_le_of_busy (hbusy : s.rxPhase ≠ .idle) : rxRank s ≤ 162 := by
  have hbyte := rxByte_lt s
  have hbit := rxBit_lt s
  cases hph : s.rxPhase with
  | idle => exact absurd hph hbusy
  | hdr | bit | chk =>
    simp only [rxRank, hph]
    omega

/-- From any position of a decode, it ends with the right result, at the latest with the 163rd micro-operation (R109). -/
theorem firstIdleAfter_of_inDecode {k : Nat} (hk : rxRank s + k = 163) (hn : NothingPending s) (ht : s.txPhase = .idle)
    (h : InDecode s) :
    ∃ n t r, n ≤ k ∧ FirstIdleAfter n s t ∧ t = s.withRxOf t ∧ ResultRight s.tol s.cap r ∧
      Ended s.handed (rxRank s + n) r t := by
  induction k generalizing s with
  | zero =>
    have hrank := rxRank_le_of_busy h.busy
    omega
  | succ k ih =>
    obtain ⟨u, he⟩ := exec_rxMicroOp_runs s.rxPhase.microOp_mem s
    have hstep : step s = .next u := (step_of_rxBusy hn ht h.busy).trans he
    have hframe : u = s.withRxOf u := eq_withRxOf s.rxPhase.microOp_mem he
    obtain ⟨hu, hrank, hhanded⟩ | ⟨r, hr, hended⟩ := goesOn_or_endsRight_microOp h he
    · have hn' : NothingPending u := by
        rw [hframe]
        exact hn
      obtain ⟨n, t, r, hle, hfirst, hframe', hr, hended⟩ := ih (by omega) hn' (by rw [hframe]; exact ht) hu
      rw [hframe] at hframe' hr
      rw [hhanded, hrank, Nat.add_assoc, Nat.add_comm 1] at hended
      exact ⟨n + 1, t, r, by omega, hfirst.succ h.busy hstep, hframe', hr, hended⟩
    · exact ⟨1, u, r, by omega, firstIdleAfter_one h.busy hstep hended.idle, hframe, hr, hended⟩

end

/-- Settles O49: from the start position a decode ends with the right result, and `RxDecode` gives that one. -/
theorem decodeAgreesWithRxDecode : Obligations.DecodeAgreesWithRxDecode := by
  intro s hn ht hph hbyte hbit hcur
  have hstart : InDecode s := by
    simp only [InDecode, hph]
    exact ⟨hbyte, hbit, hcur⟩
  have hrank : rxRank s = 0 := by simp [rxRank, hph]
  obtain ⟨n, t, r, hle, ⟨hreaches, hidle, hbusy⟩, hframe, hr, hended⟩ :=
    firstIdleAfter_of_inDecode (k := 163) (by rw [hrank]) hn ht hstart
  rw [hrank, Nat.zero_add] at hended
  have hsame : SameTx s t := by
    rw [hframe]
    exact ⟨rfl, rfl, rfl, rfl, rfl, rfl, rfl⟩
  have hports : SamePorts s t := by
    rw [hframe]
    exact ⟨rfl, rfl, rfl, rfl, rfl, rfl⟩
  have hcap : t.cap = s.cap := by
    rw [hframe]
    rfl
  rw [rxDecode_of_resultRight hr]
  cases hended with
  | failed u e hhanded =>
    exact ⟨n, _, hle, hreaches, hidle, rfl, rfl, rfl, hsame, hports, hcap, hbusy, rfl, rfl, hhanded⟩
  | succeeded u hhanded hn =>
    exact ⟨n, _, hle, hreaches, hidle, rfl, rfl, rfl, hsame, hports, hcap, hbusy, hn, rfl, rfl, rfl,
      congrArg (· ++ [u.rxf]) hhanded⟩

/-! ### The fixed bytes of a capture -/

/-- The checks of a capture are those of the frame it carries (R93). -/
theorem checksRight_iff_fixedBytesRight {t : Tolerance} {cap : List Event} {F : Frame}
    (hF : ∀ i : Fin 18, F[i.val] = capturedByte t cap i.val) : ChecksRight t cap 18 ↔ FixedBytesRight F := by
  constructor
  · intro h m
    rw [hF m]
    exact h m.val m.isLt
  · intro h i hi
    rw [← hF ⟨i, hi⟩]
    exact h ⟨i, hi⟩

/-- Settles O59: the checks are the seven comparisons, and no other byte of the capture is compared. -/
theorem payloadIsNeverInspected : Obligations.PayloadIsNeverInspected := by
  refine fun t cap => ⟨fun hheader hbits h0 h1 h2 h3 h4 h13 h16 => ?_, fun R hR => ?_⟩
  · obtain ⟨F, hF⟩ : ∃ F : Frame, ∀ i : Fin 18, F[i.val] = capturedByte t cap i.val :=
      ⟨Vector.ofFn fun i => capturedByte t cap i.val, fun i => by simp⟩
    have hfixed : FixedBytesRight F := (fixedBytesRight_iff F).mpr
      ⟨(hF 0).trans h0, (hF 1).trans h1, (hF 2).trans h2, (hF 3).trans h3, (hF 4).trans h4, (hF 13).trans h13,
        (hF 16).trans h16⟩
    exact ⟨F, rxDecode_of_allRight hheader hbits ((checksRight_iff_fixedBytesRight hF).mpr hfixed) hF, hF⟩
  · obtain ⟨-, -, hchecks, hbytes⟩ := rxDecode_eq_iff.mp hR
    exact (fixedBytesRight_iff R).mp ((checksRight_iff_fixedBytesRight hbytes).mp hchecks)

end Sys2Proof.Machine
end

section
/-! PROOFS. The statements of 60_exceptions.md: what taking an error writes (R146), what makes each micro-operation of the
deserializer raise and what it does otherwise (R142, R143, R144), and the priority of the failures of a whole decode
(R147). -/

namespace Sys2Proof.Machine

/-! ### The result of a whole decode -/

/-- Settles O55: each clause is the right result of that form. -/
theorem decodeReportsTheFirstFailure : Obligations.DecodeReportsTheFirstFailure :=
  fun _ _ => ⟨rxDecode_eq_iff, fun _ => rxDecode_eq_iff, fun _ => rxDecode_eq_iff, fun _ => rxDecode_eq_iff⟩

/-! ### Taking an error -/

/-- No error's status is the one of a success (R141). -/
theorem errorStatus_ne_ok (e : RxError) : errorStatus e ≠ .ok := by cases e <;> nofun

/-- Settles O23: the two result registers and the position are written, and the status is no success. -/
theorem raisingWritesTheResult : Obligations.RaisingWritesTheResult :=
  fun s e => ⟨raiseRx_eq e s, beq_false_of_ne (errorStatus_ne_ok e)⟩

/-! ### What makes a query false -/

/-- Two events are no item whose mark and space pass their tests exactly when one of the five causes of R142 and R143
holds. -/
theorem not_exists_item_iff {cap : List Event} {c : Nat} {markOk spaceOk : Nat → Prop} :
    (¬ ∃ d0 d1, cap[c]? = some (.mark d0) ∧ cap[c + 1]? = some (.space d1) ∧ markOk d0 ∧ spaceOk d1) ↔
      cap.length ≤ c + 1 ∨ (∃ d, cap[c]? = some (.space d)) ∨ (∃ d, cap[c]? = some (.mark d) ∧ ¬ markOk d) ∨
        (∃ d, cap[c + 1]? = some (.mark d)) ∨ (∃ d, cap[c + 1]? = some (.space d) ∧ ¬ spaceOk d) := by
  by_cases hlen : cap.length ≤ c + 1
  · simp [hlen]
  · have h0 : cap[c]? = some cap[c] := List.getElem?_eq_getElem (by omega)
    have h1 : cap[c + 1]? = some cap[c + 1] := List.getElem?_eq_getElem (by omega)
    rw [h0, h1]
    cases cap[c] with
    | space d0 => simp
    | mark d0 =>
      cases cap[c + 1] with
      | mark d1 => simp
      | space d1 => simp [hlen, imp_iff_not_or]

/-- What makes a query false (R36, R142). -/
theorem itemMatches_eq_false_iff {t : Tolerance} {cap : List Event} {c m sp : Nat} :
    itemMatches t cap c m sp = false ↔
      cap.length ≤ c + 1 ∨ (∃ d, cap[c]? = some (.space d)) ∨
        (∃ d, cap[c]? = some (.mark d) ∧ accepts t m d = false) ∨ (∃ d, cap[c + 1]? = some (.mark d)) ∨
        (∃ d, cap[c + 1]? = some (.space d) ∧ accepts t sp d = false) := by
  simp only [← Bool.not_eq_true, itemMatches_iff]
  exact not_exists_item_iff

/-- What makes two queries with the same mark false (R143). -/
theorem itemMatches_both_eq_false_iff {t : Tolerance} {cap : List Event} {c m sp sp' : Nat} :
    itemMatches t cap c m sp = false ∧ itemMatches t cap c m sp' = false ↔
      cap.length ≤ c + 1 ∨ (∃ d, cap[c]? = some (.space d)) ∨
        (∃ d, cap[c]? = some (.mark d) ∧ accepts t m d = false) ∨ (∃ d, cap[c + 1]? = some (.mark d)) ∨
        (∃ d, cap[c + 1]? = some (.space d) ∧ accepts t sp d = false ∧ accepts t sp' d = false) := by
  have hpass : itemMatches t cap c m sp = true ∨ itemMatches t cap c m sp' = true ↔
      ∃ d0 d1, cap[c]? = some (.mark d0) ∧ cap[c + 1]? = some (.space d1) ∧
        accepts t m d0 = true ∧ (accepts t sp d1 = true ∨ accepts t sp' d1 = true) := by
    simp only [itemMatches_iff, and_or_left, exists_or]
  simp only [← Bool.not_eq_true, ← not_or, hpass]
  exact not_exists_item_iff

/-! ### The header -/

/-- Settles O26: a header that is found and the causes that none is are the two answers of the query. -/
theorem rxHdrFindsOrRaises : Obligations.RxHdrFindsOrRaises := by
  intro s
  obtain ⟨hmatch, hnext⟩ | ⟨hmatch, hnext⟩ := execRxHdr_cases s
  · refine ⟨fun _ _ _ _ _ _ => hnext, fun hcause => ?_⟩
    rw [itemMatches_eq_false_iff.mpr hcause] at hmatch
    cases hmatch
  · refine ⟨fun d0 d1 h0 h1 hm hsp => ?_, fun _ => hnext⟩
    rw [itemMatches_iff.mpr ⟨d0, d1, h0, h1, hm, hsp⟩] at hmatch
    cases hmatch

/-! ### The bits -/

/-- The start of a byte as one update: at bit 0 the byte is cleared and recorded as written (R92). -/
theorem beginByte_eq (s : State) :
    s.beginByte = { s with
      rxf := s.rxf.set s.rxByte.val (if s.rxBit.val = 0 then 0 else s.rxf[s.rxByte.val]) s.rxByte.isLt
      rxfWritten := if s.rxBit.val = 0 then s.rxfWritten ||| (1#18 <<< s.rxByte.val) else s.rxfWritten } := by
  obtain ⟨hj, h⟩ | ⟨hj, h⟩ := beginByte_cases s <;> rw [h]
  · simp [hj, State.clearRxf]
  · simp [Fin.val_ne_zero_iff.mpr hj]

/-- The start of a byte and the write of a 1 are one write of the byte (R92). -/
theorem setRxfBit_beginByte (s : State) (c : Nat) :
    (s.beginByte.setRxCur c).setRxfBit s.rxByte s.rxBit = { s with
      rxf := s.rxf.set s.rxByte.val
        ((if s.rxBit.val = 0 then 0 else s.rxf[s.rxByte.val]) ||| (1#8 <<< s.rxBit.val)) s.rxByte.isLt
      rxfWritten := if s.rxBit.val = 0 then s.rxfWritten ||| (1#18 <<< s.rxByte.val) else s.rxfWritten
      rxCur := c } := by
  simp [beginByte_eq, State.setRxfBit, State.setRxCur, byteSetBit]

/-- The successor of `RX.BIT` as one update of the phase and the bit (R92, R95). -/
theorem advanceRx_eq (s : State) :
    s.advanceRx =
      if s.rxBit.val < 7 then { s with rxPhase := .bit, rxBit := s.rxBit + 1 }
      else { s with rxPhase := .chk, rxBit := 0 } := by
  obtain ⟨hj, h⟩ | ⟨hj, h⟩ := advanceRx_cases s <;> rw [h]
  · rw [if_pos hj]
    rfl
  · rw [if_neg (by omega)]
    rfl

/-- What `RX.BIT` does, as one conditional: the one-item is tried first, then the zero-item (R92, R97). -/
theorem exec_rxBit_eq (s : State) :
    exec .rxBit s = .next (
      if itemMatches s.tol s.cap s.rxCur 430 1250 then
        ((s.beginByte.setRxCur (s.rxCur + 2)).setRxfBit s.rxByte s.rxBit).advanceRx
      else if itemMatches s.tol s.cap s.rxCur 430 390 then (s.beginByte.setRxCur (s.rxCur + 2)).advanceRx
      else s.beginByte.raiseRx (.bitTimingMismatch (wireIndex s.rxByte s.rxBit))) := by
  obtain ⟨hone, h⟩ | ⟨hone, hzero, h⟩ | ⟨hone, hzero, h⟩ := execRxBit_cases s <;> refine h.trans ?_
  · rw [if_pos hone]
  · rw [if_neg (ne_true_of_eq_false hone), if_pos hzero]
  · rw [if_neg (ne_true_of_eq_false hone), if_neg (ne_true_of_eq_false hzero)]

/-- Settles O27: the three answers of `RX.BIT`, each as one update, and the causes that make both queries false. -/
theorem rxBitReadsOrRaises : Obligations.RxBitReadsOrRaises := by
  refine fun s => ⟨fun hone => ?_, fun hone hzero => ?_, fun hone hzero => ?_, itemMatches_both_eq_false_iff.symm⟩
  · rw [exec_rxBit_eq, if_pos hone, setRxfBit_beginByte, advanceRx_eq]
  · rw [exec_rxBit_eq, if_neg (ne_true_of_eq_false hone), if_pos hzero, beginByte_eq, advanceRx_eq]
    rfl
  · rw [exec_rxBit_eq, if_neg (ne_true_of_eq_false hone), if_neg (ne_true_of_eq_false hzero), beginByte_eq]
    rfl

/-! ### The checks -/

/-- A listed entry is the one found at its index (R19). -/
theorem fixedAt_of_mem : ∀ e ∈ Config.fixedTable, fixedAt e.1 = some e.2 := by decide

/-- A byte is allowed when its index has no entry or the byte equals it (R93). -/
theorem byteAllowed_iff {i : Nat} {b : Byte} : byteAllowed i b = true ↔ fixedAt i = none ∨ fixedAt i = some b := by
  unfold byteAllowed
  cases fixedAt i with
  | none => simp
  | some v => rw [beq_iff_eq, Option.some.injEq, eq_comm, or_iff_right (by nofun)]

/-- Settles O28: the byte is compared with the entry at its index; index 17 has none. -/
theorem rxChkComparesFixedBytes : Obligations.RxChkComparesFixedBytes := by
  refine fun s => ⟨fun v hv hne => execRxChk_of_not_allowed ?_, fun hi hentry => ?_, fun hi => ?_⟩
  · have hentry : fixedAt s.rxByte.val = some v := fixedAt_of_mem _ hv
    simpa [byteAllowed, hentry] using hne
  · obtain ⟨-, h⟩ | ⟨hi', -⟩ := passCheck_cases s
    · exact (execRxChk_of_allowed (byteAllowed_iff.mpr hentry)).trans (congrArg _ h)
    · omega
  · have hnone : fixedAt s.rxByte.val = none := by rw [hi]; rfl
    obtain ⟨hi', -⟩ | ⟨-, h⟩ := passCheck_cases s
    · omega
    · exact (execRxChk_of_allowed (byteAllowed_iff.mpr (.inl hnone))).trans (congrArg _ h)

end Sys2Proof.Machine
end

section
/-! PROOFS. The statement about the opcode table's numbers: the word a number stands for, placed, is the word the next step
reads (log entries 12, 14, 15). -/

namespace Sys2Proof.Machine

/-! ### The words of the opcode table -/

/-- A number that decodes stands for a code word that decodes to the same instruction (log entry 14). -/
theorem decodeTableWord_eq_some {nbits w : Nat} {i : Instr} (h : decodeTableWord nbits w = some i) :
    ∃ c, codeWordOfTable nbits w = some c ∧ decode c = .ok i := by
  unfold decodeTableWord at h
  split at h
  · nomatch h
  · next c hword =>
    split at h
    · next j hdecode =>
      cases h
      exact ⟨c, hword, hdecode⟩
    · nomatch h

/-- A number stands for a frame, a command, or a phase code of the serializer that is not the idle one (log entry 14). -/
theorem codeWordOfTable_cases {nbits w : Nat} {c : CodeWord} (h : codeWordOfTable nbits w = some c) :
    (∃ f, c = .frame f) ∨ (∃ v, c = .cmd v) ∨ ∃ v, v ≠ 0 ∧ c = .txPhase v := by
  unfold codeWordOfTable at h
  split_ifs at h
  · exact .inl ⟨_, (Option.some.inj h).symm⟩
  · exact .inr (.inl ⟨_, (Option.some.inj h).symm⟩)
  · have hne : BitVec.ofNat 3 w ≠ 0 := by bv_omega
    exact .inr (.inr ⟨_, hne, (Option.some.inj h).symm⟩)

/-! ### The placed word is fetched -/

/-- A placed frame is the next word (log entry 12). -/
theorem fetch_placeWord_frame (s : State) (f : BitVec 144) : fetch (placeWord s (.frame f)) = decode (.frame f) := rfl

/-- A placed command is the next word: 00 makes both halves idle, any other goes before the phases (R25; log entry 1). -/
theorem fetch_placeWord_cmd (s : State) (v : BitVec 2) : fetch (placeWord s (.cmd v)) = decode (.cmd v) := by
  by_cases hv : v = 0
  · subst hv
    exact fetch_of_bothIdle ⟨rfl, rfl⟩ rfl rfl
  · rw [placeWord, if_neg hv]
    exact fetch_of_cmd rfl hv

/-- A placed phase code of the serializer, not the idle one, is the next word: nothing is pending and the deserializer is
idle (R14; log entry 15). -/
theorem fetch_placeWord_txPhase (s : State) {v : BitVec 3} {i : Instr} (hv : v ≠ 0) (h : decodeTxPhase v = .ok i) :
    fetch (placeWord s (.txPhase v)) = .ok i := by
  unfold decodeTxPhase at h
  rw [if_neg hv] at h
  split_ifs at h <;> (cases h; subst v; exact fetch_of_txBusy ⟨rfl, rfl⟩ (by nofun) rfl)

/-- The word of a number, placed, is what the next step fetches (log entries 14, 15). -/
theorem fetch_placeWord_of_codeWordOfTable (s : State) {nbits w : Nat} {c : CodeWord} {i : Instr}
    (hword : codeWordOfTable nbits w = some c) (h : decode c = .ok i) : fetch (placeWord s c) = .ok i := by
  obtain ⟨f, rfl⟩ | ⟨v, rfl⟩ | ⟨v, hv, rfl⟩ := codeWordOfTable_cases hword
  · exact (fetch_placeWord_frame s f).trans h
  · exact (fetch_placeWord_cmd s v).trans h
  · exact fetch_placeWord_txPhase s hv h

/-! ### Placing makes no second half busy -/

/-- A placed phase code of the serializer leaves the deserializer idle (log entry 15). -/
theorem rxPhase_placeWord_txPhase (s : State) (v : BitVec 3) : (placeWord s (.txPhase v)).rxPhase = .idle := by
  simp only [placeWord]
  split_ifs <;> rfl

/-- Where a half is idle, a half is idle after the word of a number is placed (log entry 15). -/
theorem oneIdle_placeWord_of_codeWordOfTable {s : State} {nbits w : Nat} {c : CodeWord}
    (hword : codeWordOfTable nbits w = some c) (h : s.txPhase = .idle ∨ s.rxPhase = .idle) :
    (placeWord s c).txPhase = .idle ∨ (placeWord s c).rxPhase = .idle := by
  obtain ⟨f, rfl⟩ | ⟨v, rfl⟩ | ⟨v, -, rfl⟩ := codeWordOfTable_cases hword
  · exact h
  · by_cases hv : v = 0
    · subst hv
      exact .inl rfl
    · rw [placeWord, if_neg hv]
      exact h
  · exact .inr (rxPhase_placeWord_txPhase s v)

/-- Settles O12: the placed word is fetched, and with a half idle nothing is counted before it runs. -/
theorem placedTableWordRuns : Obligations.PlacedTableWordRuns := by
  intro s nbits w i hidle hdecode
  obtain ⟨c, hword, hc⟩ := decodeTableWord_eq_some hdecode
  have hplace : s.withFetchWord nbits w = placeWord s c := by rw [State.withFetchWord, hword]
  rw [hplace, step_of_fetch (fetch_placeWord_of_codeWordOfTable s hword hc),
    beforeExec_of_idle (oneIdle_placeWord_of_codeWordOfTable hword hidle)]

end Sys2Proof.Machine
end
